-- ==== Sys2Proof/Word.lean ====
section
/-! DEFINITION. The words of the block: bit vectors for what the spec treats as bits (00_scope.md section 5, R6). -/

namespace Sys2Proof

/-- A DataByte (20_memory.md R42, `DATA_BITS = 8`). -/
abbrev Byte := BitVec 8

/-- The value of the 20 shared lines, line `i` in bit `i`; also a device address (00_scope.md R3, 20_memory.md R40, R49). -/
abbrev Lines := BitVec 20

/-- The `ARG` operand of a command word (30_encoding.md R70, `ARG_BITS = 32`). -/
abbrev Arg := BitVec 32

/-- A command word `OP[43:40] DATA[39:32] ARG[31:0]` (30_encoding.md R70, `CW_BITS = 44`). -/
abbrev CmdWord := BitVec 44

end Sys2Proof
end

