-- ==== Sys2Proof/Config.lean ====
section
/-! DEFINITION. The parameters of the block (00_scope.md R3) and the free values.
A parameter R3 gives a value is a constant; a parameter R3 marks OPEN is a field of `Config`, which State carries, so a
statement over all states holds for every value of it. A free value (`draw`, 00_scope.md section 5) is a constant with no body. -/

namespace Sys2Proof

/-- The OPEN parameters of 00_scope.md R3. Times are natural numbers of one unit the spec leaves open. -/
structure Config where
  /-- `PRIM_EN`: the primitives (opcodes 8 to 15) are accepted (30_encoding.md R76). -/
  primEn : Bool
  /-- `CE_STATIC`: the constant level of Chip-Enable (10_state.md R15). -/
  ceStatic : Bool
  /-- `N_SHORT`: clock cycles in one short delay, at least 1 (`Config.wellFormed`). -/
  nShort : Nat
  /-- `T_CLK`: the clock period. -/
  tClk : Nat
  /-- `T_LS`: the device's latch settle time. -/
  tLs : Nat
  /-- `T_ACC`: the device's address-to-data access time. -/
  tAcc : Nat
  /-- `T_WP`: the device's minimum write pulse. -/
  tWp : Nat
  /-- `POL_DOE`: the port's level when `doe` is logically true (D5). -/
  polDoe : Bool
  /-- `POL_ALE`: the port's level when `ale` is `Transparent` (D5). -/
  polAle : Bool
  /-- `POL_WE`: the port's level when `we` is logically true (D5). -/
  polWe : Bool
  /-- `POL_CE`: the port's level when `ce` is logically true (D5). -/
  polCe : Bool
  /-- `CHUNK`: bytes the verify client asks of its byte source at a time, at least 1 (44_host_clients.md R165). -/
  chunk : Nat
  deriving DecidableEq, Repr

/-- `LONG_MULT`: the long delay is three short delays (40_timing_primitives.md R101). -/
def Config.longMult : Nat := 3

/-- `WRITE_PULSE_UNITS` (00_scope.md R3, 92_eei_decisions.md D18; log 28). -/
def Config.writePulseUnits : Nat := 1

/-- `ACC_UNITS` (00_scope.md R3, D39). -/
def Config.accUnits : Nat := 3

/-- The units of wait after which the device's latch has settled: one short delay (20_memory.md R44 (b)). -/
def Config.settleUnits : Nat := 1

/-- `T_SHORT = N_SHORT * T_CLK` (00_scope.md R3). -/
def Config.tShort (c : Config) : Nat := c.nShort * c.tClk

/-- 40_timing_primitives.md R106 (a): `T_SHORT` is at least `T_LS`. -/
def Config.settleOK (c : Config) : Bool := decide (c.tLs ≤ Config.settleUnits * c.tShort)

/-- 40_timing_primitives.md R106 (b): `WRITE_PULSE_UNITS * T_SHORT` is at least `T_WP`: a premise
of every claim about a write, which the source asserts and never tests (70_reset_and_hazards.md R226, 93_implementation_defined.md U3; log 28). -/
def Config.writePulseOK (c : Config) : Bool := decide (c.tWp ≤ Config.writePulseUnits * c.tShort)

/-- 40_timing_primitives.md R106 (c): `LONG_MULT * T_SHORT` exceeds `T_ACC`. -/
def Config.accessOK (c : Config) : Bool := decide (c.tAcc < Config.longMult * c.tShort)

/-- The premise `TimingOK` of 70_reset_and_hazards.md R230: the three obligations of R106. -/
def Config.timingOK (c : Config) : Bool := c.settleOK && c.writePulseOK && c.accessOK

/-- The parameters of `State.reset`: R3's defaults for `PRIM_EN` and `CE_STATIC`; the others are OPEN, and the least values
that meet R3 and R106 stand here. DESIGN CHOICE (log 5). -/
def Config.reference : Config where
  primEn := true
  ceStatic := true
  nShort := 1
  tClk := 1
  tLs := 1
  tAcc := 2
  tWp := 1
  polDoe := true
  polAle := true
  polWe := true
  polCe := true
  chunk := 16

/-- The `n`-th free value of the shared lines (00_scope.md section 5, `draw`; 20_memory.md R43 (d), R46). No body: nothing is known of it (log 6). -/
opaque Config.draw20 : Nat → BitVec 20

/-- The `n`-th free value of the whole device's contents (20_memory.md R47, C10), as a code of contents. No body (log 6). -/
opaque Config.drawDev : Nat → Nat

/-- `DevRead` where nothing is known: what a device whose contents have the code `c` returns for an address (20_memory.md R45). No body: OPEN (log 7). -/
opaque Config.devRead : Nat → BitVec 20 → BitVec 8

/-- `DevWrite` of the open device: the code of the contents after a write strobe, from the whole contents before it, the address and the byte
(20_memory.md R47). No body: OPEN (log 7). -/
opaque Config.devWrite : Nat → List Host.Cell → BitVec 20 → BitVec 8 → Nat

end Sys2Proof
end

