-- ==== Sys2Proof/Syntax.lean ====
section
/-! DEFINITION. The eleven commands, one constructor per row of opcode_table.json (30_encoding.md R72).
An operand is the field of the command word the format reads (R71); a field the format ignores is no operand (R74). -/

namespace Sys2Proof

/-- The two delay classes (40_timing_primitives.md R101; code `ARG[0]`, 30_encoding.md R82). -/
inductive DelayClass where
  | short
  | long
  deriving DecidableEq, Repr

/-- A command (30_encoding.md R72). -/
inductive Instr where
  /-- NOP (43_byte_access.md R143). -/
  | nop
  /-- READ_BYTE address (43_byte_access.md R141). -/
  | readByte (arg : Arg)
  /-- WRITE_BYTE address, data (43_byte_access.md R142). -/
  | writeByte (arg : Arg) (data : Byte)
  /-- PREP_ADDR (41_bus_direction.md R110). -/
  | prepAddr
  /-- DRIVE bits (41_bus_direction.md R111). -/
  | drive (arg : Arg)
  /-- PREP_READ (41_bus_direction.md R112). -/
  | prepRead
  /-- SAMPLE (41_bus_direction.md R113). -/
  | sample
  /-- PREP_WRITE data (41_bus_direction.md R114). -/
  | prepWrite (data : Byte)
  /-- LATCH_ADDR address (42_address_latch.md R130). -/
  | latchAddr (arg : Arg)
  /-- DELAY class (40_timing_primitives.md R103). -/
  | delay (cls : DelayClass)
  /-- BUS_IDLE (41_bus_direction.md R115). -/
  | busIdle
  deriving DecidableEq, Repr

/-- The group "primitive" of 30_encoding.md R72: opcodes 8 to 15. -/
def Instr.isPrimitive : Instr → Bool
  | .nop => false
  | .readByte _ => false
  | .writeByte _ _ => false
  | .prepAddr => true
  | .drive _ => true
  | .prepRead => true
  | .sample => true
  | .prepWrite _ => true
  | .latchAddr _ => true
  | .delay _ => true
  | .busIdle => true

end Sys2Proof
end

