-- ==== Sys2Proof/WellFormed.lean ====
section
/-! DEFINITION. What is well formed: an instruction for a configuration, a configuration, a table word. -/

namespace Sys2Proof

/-- An operand of an instruction is a whole field of the command word, of exactly its width (30_encoding.md R70, R73, R74:
"any value in it is legal"), so every term of `Instr` is well formed. -/
def Instr.wellFormed : Instr → Bool
  | .nop => true
  | .readByte _ => true
  | .writeByte _ _ => true
  | .prepAddr => true
  | .drive _ => true
  | .prepRead => true
  | .sample => true
  | .prepWrite _ => true
  | .latchAddr _ => true
  | .delay _ => true
  | .busIdle => true

/-- The instruction is one the configuration accepts: with `PRIM_EN = false` only NOP, READ_BYTE and WRITE_BYTE are (30_encoding.md R76). -/
def Instr.acceptedBy (c : Config) (i : Instr) : Bool := c.primEn || !i.isPrimitive

/-- The bounds of 00_scope.md R3: `N_SHORT` and `CHUNK` are integers of at least 1. -/
def Config.wellFormed (c : Config) : Bool := decide (1 ≤ c.nShort) && decide (1 ≤ c.chunk)

/-- A number is a command word when it fits in 44 bits (30_encoding.md R70, R81: one fixed length). -/
def wordInRange (w : Nat) : Bool := decide (w < 2 ^ 44)

end Sys2Proof
end

