-- ==== Sys2Proof/Decode.lean ====
section
/-! DEFINITION. The decoder and the encoder of command words (30_encoding.md R70 to R75, R79, R81). -/

namespace Sys2Proof

/-- Why a word is no command: its `OP` is reserved (30_encoding.md R75). -/
inductive DecodeError where
  | reservedOp (op : BitVec 4)
  deriving DecidableEq, Repr

/-- The field `OP`, bits 43 to 40 (30_encoding.md R70). -/
def opField (w : CmdWord) : BitVec 4 := w.extractLsb' 40 4

/-- The field `DATA`, bits 39 to 32 (30_encoding.md R70). -/
def dataField (w : CmdWord) : Byte := w.extractLsb' 32 8

/-- The field `ARG`, bits 31 to 0 (30_encoding.md R70). -/
def argField (w : CmdWord) : Arg := w.extractLsb' 0 32

/-- A command word from its three fields (30_encoding.md R70). -/
def packWord (op : BitVec 4) (data : Byte) (arg : Arg) : CmdWord := (op ++ data ++ arg : BitVec 44)

/-- The delay class: `ARG[0]`, 0 `SHORT`, 1 `LONG`; `ARG[31:1]` ignored (30_encoding.md R73, D28). -/
def delayClassOf (arg : Arg) : DelayClass := if arg.getLsbD 0 then .long else .short

/-- The decoder: `OP` alone selects the operation (30_encoding.md R72); 3 to 7 are reserved (R75); ignored fields are dropped (R74). -/
def decodeWord (w : CmdWord) : Except DecodeError Instr :=
  match (opField w).toNat with
  | 0 => .ok .nop
  | 1 => .ok (.readByte (argField w))
  | 2 => .ok (.writeByte (argField w) (dataField w))
  | 8 => .ok .prepAddr
  | 9 => .ok (.drive (argField w))
  | 10 => .ok .prepRead
  | 11 => .ok .sample
  | 12 => .ok (.prepWrite (dataField w))
  | 13 => .ok (.latchAddr (argField w))
  | 14 => .ok (.delay (delayClassOf (argField w)))
  | 15 => .ok .busIdle
  | _ => .error (.reservedOp (opField w))

/-- What the decoder reads from an instruction of the table: one word of 44 bits (30_encoding.md R70); a longer number is no command word. -/
def decodeTableWord (_nbits w : Nat) : Option Instr :=
  if wordInRange w then
    match decodeWord (BitVec.ofNat 44 w) with
    | .ok i => some i
    | .error _ => none
  else none

/-- The value of `OP` of each operation (30_encoding.md R72). -/
def Instr.opcode : Instr → BitVec 4
  | .nop => 0x0#4
  | .readByte _ => 0x1#4
  | .writeByte _ _ => 0x2#4
  | .prepAddr => 0x8#4
  | .drive _ => 0x9#4
  | .prepRead => 0xA#4
  | .sample => 0xB#4
  | .prepWrite _ => 0xC#4
  | .latchAddr _ => 0xD#4
  | .delay _ => 0xE#4
  | .busIdle => 0xF#4

/-- The field `DATA` the assembler writes: the data operand, else zero (30_encoding.md R79). -/
def Instr.encodedData : Instr → Byte
  | .nop => 0#8
  | .readByte _ => 0#8
  | .writeByte _ data => data
  | .prepAddr => 0#8
  | .drive _ => 0#8
  | .prepRead => 0#8
  | .sample => 0#8
  | .prepWrite data => data
  | .latchAddr _ => 0#8
  | .delay _ => 0#8
  | .busIdle => 0#8

/-- The field `ARG` the assembler writes: the address, the bits or the class, else zero (30_encoding.md R79). -/
def Instr.encodedArg : Instr → Arg
  | .nop => 0#32
  | .readByte arg => arg
  | .writeByte arg _ => arg
  | .prepAddr => 0#32
  | .drive arg => arg
  | .prepRead => 0#32
  | .sample => 0#32
  | .prepWrite _ => 0#32
  | .latchAddr arg => arg
  | .delay .short => 0#32
  | .delay .long => 1#32
  | .busIdle => 0#32

/-- The assembler's word of an instruction, zero in every ignored field (30_encoding.md R79). -/
def encode (i : Instr) : CmdWord := packWord i.opcode i.encodedData i.encodedArg

/-- The bits of the word an operation reads besides `OP`, as the formats N, A, D, AD of 30_encoding.md R71 give them (DELAY reads `ARG[0]` only, R73). -/
def Instr.readMask : Instr → CmdWord
  | .nop => 0x00000000000#44
  | .readByte _ => 0x000FFFFFFFF#44
  | .writeByte _ _ => 0x0FFFFFFFFFF#44
  | .prepAddr => 0x00000000000#44
  | .drive _ => 0x000FFFFFFFF#44
  | .prepRead => 0x00000000000#44
  | .sample => 0x00000000000#44
  | .prepWrite _ => 0x0FF00000000#44
  | .latchAddr _ => 0x000FFFFFFFF#44
  | .delay _ => 0x00000000001#44
  | .busIdle => 0x00000000000#44

/-- The mask of the opcode map: `OP` alone (30_encoding.md R72). -/
def opMask : CmdWord := 0xF0000000000#44

end Sys2Proof
end

