-- ==== Sys2Proof/Machine/State.lean ====
section
/-! DEFINITION. The state of the machine: the block's record (10_state.md R10), the environment the spec gives (20_memory.md R43 to R47),
the observation of a run (00_scope.md R5), and the model's own fields (log 1). Plain data. -/

namespace Sys2Proof.Machine

/-- Who owns the shared lines (10_state.md R11). -/
inductive BusState where
  | idle
  | addressDrive
  | addressLatched
  | dataRead
  | dataWrite
  deriving DecidableEq, Repr

/-- Where one access is (10_state.md R13). -/
inductive Phase where
  | idle
  | addressPhase
  | latchPhase
  | dataPhase
  deriving DecidableEq, Repr

/-- Address-Latch-Enable (10_state.md R14). -/
inductive LatchLevel where
  | latched
  | transparent
  deriving DecidableEq, Repr

/-- The direction of all shared lines together: `In`, `Out` (10_state.md R16). -/
inductive Direction where
  | input
  | output
  deriving DecidableEq, Repr

/-- The faults the block records (60_exceptions.md R180). -/
inductive BlockFault where
  | busTimingViolation
  | illegalCommand
  deriving DecidableEq, Repr

/-- Response status (30_encoding.md R77). -/
inductive Status where
  | ok
  | busTimingViolation
  | illegalCommand
  deriving DecidableEq, Repr

/-- A response: a status and a 20-bit value (30_encoding.md R77). -/
structure Response where
  status : Status
  value : Lines
  deriving DecidableEq, Repr

/-- The pin events (00_scope.md R5) and the `Reset` mark of an abandoned command (70_reset_and_hazards.md R211). -/
inductive PinEvent where
  | setDoe (level : Bool)
  | setDir (direction : Direction)
  | setAle (level : LatchLevel)
  | setWe (level : Bool)
  | drive (value : Lines)
  | wait (units : Nat)
  | sample (value : Lines)
  | reset
  deriving DecidableEq, Repr

/-- What a micro-step does at the pins; each action emits the one pin event of its name (00_scope.md R5). -/
inductive PinAction where
  | setDoe (level : Bool)
  | setDir (direction : Direction)
  | setAle (level : LatchLevel)
  | setWe (level : Bool)
  | drive (value : Lines)
  | wait (units : Nat)
  | sample
  deriving DecidableEq, Repr

/-- What a micro-step does to `bus` (10_state.md R11): the forms the pseudocode of 41_bus_direction.md, 42_address_latch.md and 43_byte_access.md uses. -/
inductive BusRule where
  /-- `bus` is not written. -/
  | keep
  /-- `bus <- b`. -/
  | become (b : BusState)
  /-- `if bus = DataRead then bus <- Idle`. -/
  | idleIfDataRead
  /-- `if doe = false then bus <- Idle`. -/
  | idleIfOutputDisabled
  deriving DecidableEq, Repr

/-- A micro-step (41_bus_direction.md R118): one pin action with the writes of `bus` and `phase` beside it. -/
structure MicroStep where
  action : PinAction
  bus : BusRule
  phase : Option Phase
  deriving DecidableEq, Repr

/-- The device in the socket: a reference device of 20_memory.md R48, or the open device of R45, R47. -/
inductive DeviceKind where
  | rom
  | ram
  | other
  deriving DecidableEq, Repr

/-- The device's contents `dev` (20_memory.md R45): the locations whose byte is known, and the code of all the rest (log 7).
`stuck`: its data is never valid (R57). -/
structure Device where
  kind : DeviceKind
  stuck : Bool
  known : List Host.Cell
  contents : Nat
  deriving DecidableEq, Repr

/-- What the host does next (00_scope.md R4, 60_exceptions.md R194). -/
inductive HostMove where
  /-- Wait; nothing changes. -/
  | pause
  /-- Present a command word at a boundary and take its response. -/
  | command (word : CmdWord)
  /-- Present a command word and assert reset after `after` of its micro-steps (70_reset_and_hazards.md R211). -/
  | commandCut (word : CmdWord) (after : Nat)
  /-- Assert reset at a boundary (70_reset_and_hazards.md R210). -/
  | reset
  deriving DecidableEq, Repr

/-- The state (INVENTORY.md, State). -/
structure State where
  /-- The OPEN parameters (00_scope.md R3); nothing writes them (70_reset_and_hazards.md R213). -/
  cfg : Config
  /-- The block's record (10_state.md R10). -/
  bus : BusState
  phase : Phase
  doe : Bool
  ale : LatchLevel
  we : Bool
  ce : Bool
  dir : Direction
  outVal : Lines
  rdVal : Lines
  curOp : BitVec 4
  curData : Byte
  curArg : Arg
  ustep : Nat
  dlyCnt : Nat
  fault : Option BlockFault
  faultCw : CmdWord
  busy : Bool
  /-- The block has not yet left reset (70_reset_and_hazards.md R210; log 16). -/
  inReset : Bool
  /-- The device's address register (20_memory.md R44). -/
  devAlatch : Lines
  /-- The device's contents (20_memory.md R45). -/
  dev : Device
  /-- Units of wait since the shared lines last changed (20_memory.md R44 (b)). -/
  sinceLines : Nat
  /-- Units of wait since the later of: output-enable rose, the device's latch changed (20_memory.md R46). -/
  sinceValid : Nat
  /-- Units of wait in the write pulse now running, if one is (20_memory.md R47). -/
  pulse : Option Nat
  /-- How many free values have been used (00_scope.md section 5, `draw`; log 6). -/
  draws : Nat
  /-- The pin trace, oldest first (00_scope.md R5). -/
  trace : List PinEvent
  /-- The responses, oldest first (00_scope.md R5). -/
  responses : List Response
  /-- What the host does next, soonest first (log 3). -/
  moves : List HostMove
  deriving DecidableEq, Repr

/-- Why the machine stops. -/
inductive Fault where
  /-- `BusContention`: after a micro-step the controller's lines are outputs and the device's output is enabled (20_memory.md R43 (e), U15).
  Raised by `runSteps` and the clock machine. The spec gives the state no sampled value and no continuation. No boundary state reaches it. Safe. -/
  | busContention
  deriving DecidableEq, Repr

/-- Why the machine has no meaning for an instruction. -/
inductive Refusal where
  /-- The instruction of this mnemonic has no meaning in the model; raised by an arm of `exec` alone. Safe. -/
  | notModelled (mnemonic : String)
  deriving DecidableEq, Repr

/-- The device State.reset finds in the socket: the open device, nothing known of its contents (10_state.md R31: "whatever the socketed device holds").
DESIGN CHOICE (log 4). -/
def Device.unknown : Device where
  kind := .other
  stuck := false
  known := []
  contents := 0

/-- The state just after reset with the parameters `c` and the device `d` (10_state.md R31). `devAlatch` is unspecified: the free value 0 (log 4). -/
def State.resetWith (c : Config) (d : Device) : State where
  cfg := c
  bus := .idle
  phase := .idle
  doe := false
  ale := .latched
  we := false
  ce := c.ceStatic
  dir := .input
  outVal := 0#20
  rdVal := 0#20
  curOp := 0#4
  curData := 0#8
  curArg := 0#32
  ustep := 0
  dlyCnt := 0
  fault := none
  faultCw := 0#44
  busy := false
  inReset := false
  devAlatch := Config.draw20 0
  dev := d
  sinceLines := 0
  sinceValid := 0
  pulse := none
  draws := 1
  trace := []
  responses := []
  moves := []

/-- The machine right after reset (10_state.md R31, 70_reset_and_hazards.md R210). -/
def State.reset : State := State.resetWith Config.reference Device.unknown

end Sys2Proof.Machine
end

