-- ==== Sys2Proof/Machine/Flags.lean ====
section
/-! DEFINITION. The block has no status flags (10_state.md R32); what stands nearest are the codes of its status outputs (30_encoding.md R77, R82). -/

namespace Sys2Proof.Machine

/-- `bus_state[2:0]` (30_encoding.md R82). -/
def BusState.code : BusState → BitVec 3
  | .idle => 0#3
  | .addressDrive => 1#3
  | .addressLatched => 2#3
  | .dataRead => 3#3
  | .dataWrite => 4#3

/-- `phase_o[1:0]` (30_encoding.md R82). -/
def Phase.code : Phase → BitVec 2
  | .idle => 0#2
  | .addressPhase => 1#2
  | .latchPhase => 2#2
  | .dataPhase => 3#2

/-- `fault_code[1:0]` (30_encoding.md R82, 60_exceptions.md R180). -/
def faultCode : Option BlockFault → BitVec 2
  | none => 0#2
  | some .busTimingViolation => 1#2
  | some .illegalCommand => 2#2

/-- `rsp_status[1:0]` (30_encoding.md R77). -/
def Status.code : Status → BitVec 2
  | .ok => 0#2
  | .busTimingViolation => 1#2
  | .illegalCommand => 2#2

/-- The status that reports a fault (60_exceptions.md R186, R187). -/
def BlockFault.status : BlockFault → Status
  | .busTimingViolation => .busTimingViolation
  | .illegalCommand => .illegalCommand

/-- `ale_o` before polarity: `Latched` false, `Transparent` true (30_encoding.md R82). -/
def LatchLevel.isTransparent : LatchLevel → Bool
  | .latched => false
  | .transparent => true

/-- `sh_oe`: true exactly when `dir = Out` (10_state.md R30, 30_encoding.md R82). -/
def Direction.isOutput : Direction → Bool
  | .input => false
  | .output => true

/-- A logical level at its port: the port has the level `polarity` when the logical level is true (10_state.md R14, D5). -/
def atPolarity (polarity level : Bool) : Bool := level == polarity

end Sys2Proof.Machine
end

