-- ==== Sys2Proof/Machine/Memory.lean ====
section
/-! DEFINITION. The device's contents: the list of known locations in its one canonical form, and `DevRead`, `DevWrite` over it
(20_memory.md R40, R45, R47, R48; log 7). -/

namespace Sys2Proof.Machine

/-- The known locations of the device: addresses strictly rising, all in the address space. An unlisted location has no known value. -/
abbrev Memory := List Host.Cell

/-- The known byte at an address, none at an unlisted one. -/
def Memory.read? : Memory → Nat → Option Byte
  | [], _ => none
  | (k, b) :: m, a => if a = k then some b else Memory.read? m a

/-- The list with the byte at one address replaced, kept in order. -/
def Memory.write : Memory → Nat → Byte → Memory
  | [], a, v => [(a, v)]
  | (k, b) :: m, a, v =>
    if a < k then (a, v) :: (k, b) :: m
    else if a = k then (a, v) :: m
    else (k, b) :: Memory.write m a v

/-- Addresses strictly rising from `lo` on, all below `2^20`. -/
def Memory.wfFrom : Nat → Memory → Bool
  | _, [] => true
  | lo, (k, _) :: m => decide (lo ≤ k) && decide (k < 2 ^ 20) && Memory.wfFrom (k + 1) m

/-- The canonical form (20_memory.md R40: addresses `0x00000` to `0xFFFFF`). -/
def Memory.wf (m : Memory) : Bool := Memory.wfFrom 0 m

/-- `DevRead(dev, a)` (20_memory.md R45): the known byte, else the free value of the contents' code. A read changes nothing. -/
def Device.read (d : Device) (a : Lines) : Byte :=
  match Memory.read? d.known a.toNat with
  | some b => b
  | none => Config.devRead d.contents a

/-- `DevWrite(dev, a, v)` (20_memory.md R47, R48): `M_ROM` is unchanged, `M_RAM` stores, and of the open device nothing is known afterwards but that its
contents are a function of the contents before, the address and the byte. -/
def Device.write (d : Device) (a : Lines) (v : Byte) : Device :=
  match d.kind with
  | .rom => d
  | .ram => { d with known := Memory.write d.known a.toNat v }
  | .other => { d with known := [], contents := Config.devWrite d.contents d.known a v }

/-- `dev <- draw`: any contents, the `n`-th free value (20_memory.md R47, C10). -/
def Device.spoil (d : Device) (n : Nat) : Device := { d with known := [], contents := Config.drawDev n }

end Sys2Proof.Machine
end

