-- ==== Sys2Proof/Machine/Operands.lean ====
section
/-! DEFINITION. How each operand is formed from the command word (30_encoding.md R73, 00_scope.md R6): truncation and zero extension, nothing else. -/

namespace Sys2Proof.Machine

/-- The device address `trunc_20(ARG)` (20_memory.md R41). -/
def deviceAddress (arg : Arg) : Lines := arg.extractLsb' 0 20

/-- The raw line value of DRIVE, `trunc_20(ARG)` (30_encoding.md R73, D25). -/
def lineValue (arg : Arg) : Lines := arg.extractLsb' 0 20

/-- The value on the shared lines for a data byte, `zext_20(DATA)` (20_memory.md R42). -/
def dataLines (b : Byte) : Lines := b.setWidth 20

/-- The data lane, lines 7 to 0, of a value of the shared lines: `trunc_8` (20_memory.md R42, D4). -/
def dataLane (v : Lines) : Byte := v.extractLsb' 0 8

/-- The lines when the device drives the data lane and the upper twelve float at the levels of `free` (20_memory.md R43, R58). -/
def withDataLane (free : Lines) (b : Byte) : Lines := (free.extractLsb' 8 12 ++ b : BitVec 20)

/-- The units of wait of a delay class (40_timing_primitives.md R101). -/
def delayUnits : DelayClass → Nat
  | .short => 1
  | .long => Config.longMult

end Sys2Proof.Machine
end

