-- ==== Sys2Proof/Machine/Ops.lean ====
section
/-! DEFINITION. The named operations: the pins with the environment's answer to each pin event, the micro-step, the command's frame
(acceptance, checks, response), taking a fault, and reset. -/

namespace Sys2Proof.Machine

/-! ### The shared lines (20_memory.md R43, R46, R58) -/

/-- The bad state `BusContention`: `dir = Out` and `doe = true` (20_memory.md R43 (e), U15; 10_state.md R24). -/
def State.contention (s : State) : Bool := decide (s.dir = .output) && s.doe

/-- The device drives the data lane (20_memory.md R43 (b), R45). -/
def State.deviceDrives (s : State) : Bool := s.doe && s.ce

/-- The device's data is valid (20_memory.md R46; R57 for a stuck device; 40_timing_primitives.md R106 (c), log 12). -/
def State.dataValid (s : State) : Bool :=
  s.deviceDrives && !s.dev.stuck && decide (Config.accUnits ≤ s.sinceValid) && s.cfg.accessOK

/-- The level of the shared lines (20_memory.md R43): the controller's value when it alone drives; the device's valid byte with the upper
twelve lines floating; a free value when nobody drives, when the data is not valid, and when both drive. -/
def State.level (s : State) : Lines :=
  match s.dir with
  | .output => if s.deviceDrives then Config.draw20 s.draws else s.outVal
  | .input =>
    if s.dataValid then withDataLane (Config.draw20 s.draws) (s.dev.read s.devAlatch)
    else Config.draw20 s.draws

/-- The draws after the shared lines' level has been used: one more unless the controller alone drives them. -/
def State.drawsAfterLevel (s : State) : Nat :=
  match s.dir with
  | .output => if s.deviceDrives then s.draws + 1 else s.draws
  | .input => s.draws + 1

/-! ### The device's address latch and contents (20_memory.md R44, R47) -/

/-- A pin event that leaves `ale = Transparent` assigns the level of the shared lines to `dev_alatch`, and counts as a change of it (20_memory.md R44 (a), R46 (ii)). -/
def State.follow (s : State) : State :=
  match s.ale with
  | .latched => s
  | .transparent => { s with devAlatch := s.level, draws := s.drawsAfterLevel, sinceValid := 0 }

/-- `dev_alatch <- draw` (20_memory.md R44 (b), 70_reset_and_hazards.md R212). -/
def State.spoilLatch (s : State) : State :=
  { s with devAlatch := Config.draw20 s.draws, draws := s.draws + 1, sinceValid := 0 }

/-- `dev <- draw` (20_memory.md R47, 70_reset_and_hazards.md R211). -/
def State.spoilDevice (s : State) : State :=
  { s with dev := s.dev.spoil s.draws, draws := s.draws + 1 }

/-- The freezing of the latch (20_memory.md R44 (b), (c)): the latch keeps its value when the lines have been still for a short delay
(and R106 (a) holds, log 12), else it is a free value; a latch already frozen is not touched (log 10). -/
def State.freeze (s : State) : State :=
  match s.ale with
  | .latched => s
  | .transparent => if decide (Config.settleUnits ≤ s.sinceLines) && s.cfg.settleOK then s else s.spoilLatch

/-- `MemWrite(dev_alatch, 1, out_val[7:0])` (20_memory.md R47). -/
def State.storeByte (s : State) : State :=
  { s with dev := s.dev.write s.devAlatch (dataLane s.outVal) }

/-- What the device does at a `SetWE(false)` (20_memory.md R47): with the chip not selected nothing; at the end of a full write pulse with the controller alone
driving the lines, the write; at the end of any other pulse the contents are a free value (log 11). -/
def State.endPulse (s : State) : State :=
  if !s.ce then s
  else
    match s.pulse with
    | some u =>
      if !s.doe && decide (s.dir = .output) && decide (Config.writePulseUnits ≤ u) && s.cfg.writePulseOK then s.storeByte
      else s.spoilDevice
    | none => if s.we then s.spoilDevice else s

/-! ### The pins: one operation per pin event (00_scope.md R5) -/

/-- The event joins the pin trace (00_scope.md section 5, `emit`). -/
def State.emit (e : PinEvent) (s : State) : State := { s with trace := s.trace ++ [e] }

/-- `doe <- b; emit SetDOE(b)`. A rise from false restarts the validity clock (20_memory.md R46 (i)). -/
def State.setDoe (b : Bool) (s : State) : State :=
  ({ s with
      doe := b
      sinceValid := if b && !s.doe then 0 else s.sinceValid
      sinceLines := 0
      pulse := none } : State).follow.emit (.setDoe b)

/-- `dir <- d; emit SetDIR(d)` (10_state.md R16). -/
def State.setDir (d : Direction) (s : State) : State :=
  ({ s with dir := d, sinceLines := 0, pulse := none } : State).follow.emit (.setDir d)

/-- `ale <- m; emit SetALE(m)` (20_memory.md R44). -/
def State.setAle (m : LatchLevel) (s : State) : State :=
  match m with
  | .transparent => ({ s with ale := .transparent, pulse := none } : State).follow.emit (.setAle .transparent)
  | .latched => ({ s.freeze with ale := .latched, pulse := none } : State).emit (.setAle .latched)

/-- `we <- b; emit SetWE(b)` (20_memory.md R47): true starts a write pulse, false ends one. -/
def State.setWe (b : Bool) (s : State) : State :=
  match b with
  | true => ({ s with we := true, pulse := some 0 } : State).emit (.setWe true)
  | false => ({ s.endPulse with we := false, pulse := none } : State).emit (.setWe false)

/-- `out_val <- v; emit Drive(v)` (10_state.md R17). -/
def State.drive (v : Lines) (s : State) : State :=
  ({ s with outVal := v, sinceLines := 0, pulse := none } : State).follow.emit (.drive v)

/-- `wait(k)`, over: at least `k` short delays have passed, no pin has moved, `dly_cnt` is zero again (40_timing_primitives.md R100, R104). -/
def State.wait (k : Nat) (s : State) : State :=
  ({ s with
      dlyCnt := 0
      sinceLines := s.sinceLines + k
      sinceValid := s.sinceValid + k
      pulse := s.pulse.map (· + k) } : State).emit (.wait k)

/-- `rd_val <- s; emit Sample(s)`, `s` the level of the shared lines (41_bus_direction.md R113, 10_state.md R18). -/
def State.sample (s : State) : State :=
  ({ s with rdVal := s.level, draws := s.drawsAfterLevel } : State).emit (.sample s.level)

/-- A pin action. -/
def State.act (a : PinAction) (s : State) : State :=
  match a with
  | .setDoe b => s.setDoe b
  | .setDir d => s.setDir d
  | .setAle m => s.setAle m
  | .setWe b => s.setWe b
  | .drive v => s.drive v
  | .wait k => s.wait k
  | .sample => s.sample

/-! ### The micro-step (41_bus_direction.md R118, 10_state.md R20) -/

/-- The value of `bus` after a micro-step that leaves the state `s` but for `bus`. -/
def BusRule.apply (r : BusRule) (s : State) : BusState :=
  match r with
  | .keep => s.bus
  | .become b => b
  | .idleIfDataRead => if s.bus = .dataRead then .idle else s.bus
  | .idleIfOutputDisabled => if s.doe then s.bus else .idle

/-- One micro-step, atomic: the pin action, `bus`, `phase`, and `ustep <- ustep + 1`. -/
def State.microStep (m : MicroStep) (s : State) : State :=
  { s.act m.action with
    bus := m.bus.apply (s.act m.action)
    phase := m.phase.getD (s.act m.action).phase
    ustep := s.ustep + 1 }

/-- Micro-steps in their order, each after the one before (41_bus_direction.md R118). The bad state `BusContention` stops the machine (log 8). -/
def runSteps : List MicroStep → State → Host.Outcome State Fault Refusal
  | [], s => .next s
  | m :: ms, s =>
    if (s.microStep m).contention then .fault .busContention
    else runSteps ms (s.microStep m)

/-! ### Acceptance, faults and the response (30_encoding.md R77, R78; 60_exceptions.md R185 to R188) -/

/-- The command word being executed: the three holding registers (10_state.md R19). -/
def State.cmdWord (s : State) : CmdWord := packWord s.curOp s.curData s.curArg

/-- Acceptance of a command (30_encoding.md R78, 10_state.md R19, R20). -/
def State.accept (w : CmdWord) (s : State) : State :=
  { s with busy := true, curOp := opField w, curData := dataField w, curArg := argField w, ustep := 1 }

/-- TAKING A FAULT, `raise X(cmd_word)` (60_exceptions.md R186): `fault` and `fault_cw` are written if no fault is recorded yet (R188: the first wins);
nothing else changes. There is no handler and no return: reset alone clears the record (`State.assertReset`). -/
def State.raise (x : BlockFault) (s : State) : State :=
  match s.fault with
  | none => { s with fault := some x, faultCw := s.cmdWord }
  | some _ => s

/-- The checks at acceptance in their order (60_exceptions.md R185): a recorded fault; decode (`IllegalCommand` for a primitive with `PRIM_EN = false`,
30_encoding.md R76); the precondition (`BusTimingViolation`, R181). -/
def State.runChecks (primitive pre : Bool) (s : State) : State :=
  match s.fault with
  | some _ => s
  | none =>
    if primitive && !s.cfg.primEn then s.raise .illegalCommand
    else if pre then s
    else s.raise .busTimingViolation

/-- The response is presented and the command is over: `busy <- false`, `ustep <- 0` (30_encoding.md R77, R78, 10_state.md R20). -/
def State.answer (st : Status) (v : Lines) (s : State) : State :=
  { s with responses := s.responses ++ [⟨st, v⟩], busy := false, ustep := 0 }

/-- A whole command after its acceptance: the checks; with a fault recorded, the refusal with its code and no micro-step (60_exceptions.md R186, R187);
else all micro-steps and the response `OK` with the command's value (30_encoding.md R77). -/
def State.perform (primitive : Bool) (pre : State → Bool) (steps : List MicroStep) (value : State → Lines) (s : State) :
    Host.Outcome State Fault Refusal :=
  match (s.runChecks primitive (pre s)).fault with
  | some f => .next ((s.runChecks primitive (pre s)).answer f.status 0#20)
  | none =>
    match runSteps steps (s.runChecks primitive (pre s)) with
    | .next t => .next (t.answer .ok (value t))
    | .fault r => .fault r
    | .refused r => .refused r

/-- A word with a reserved `OP`, after its acceptance: `IllegalCommand`, no micro-step (30_encoding.md R75, 60_exceptions.md R182). -/
def State.performReserved (s : State) : State :=
  match s.fault with
  | some f => s.answer f.status 0#20
  | none => (s.raise .illegalCommand).answer .illegalCommand 0#20

/-! ### Reset (70_reset_and_hazards.md R210 to R212, 10_state.md R31) -/

/-- What a reset does to the device: the latch is no longer known (R212), and a write pulse that is cut spoils the contents (R211). -/
def State.resetDevice (s : State) : State :=
  if s.we then s.spoilLatch.spoilDevice else s.spoilLatch

/-- The `Reset` mark at the end of an abandoned command's pin trace (R211; log 14). -/
def State.markAbandoned (s : State) : State := if s.busy then s.emit .reset else s

/-- `rst_n` goes low: every field of the block takes its reset value at once (R210, 10_state.md R31), a command in progress is abandoned without a response (R211),
and the block stays in reset. -/
def State.assertReset (s : State) : State :=
  { s.markAbandoned.resetDevice with
    bus := .idle
    phase := .idle
    doe := false
    ale := .latched
    we := false
    ce := s.cfg.ceStatic
    dir := .input
    outVal := 0#20
    rdVal := 0#20
    curOp := 0#4
    curData := 0#8
    curArg := 0#32
    ustep := 0
    dlyCnt := 0
    fault := none
    faultCw := 0#44
    busy := false
    inReset := true
    sinceLines := 0
    sinceValid := 0
    pulse := none }

/-- The first rising edge with `rst_n` high: the block leaves reset (R210). -/
def State.leaveReset (s : State) : State := { s with inReset := false }

end Sys2Proof.Machine
end

