-- ==== Sys2Proof/Machine/AddressLatch.lean ====
section
/-! DEFINITION. The address latch protocol (42_address_latch.md): LATCH_ADDR. -/

namespace Sys2Proof.Machine

/-- LATCH_ADDR u1 to u4 (R130). -/
def latchAddrSteps (arg : Arg) : List MicroStep :=
  [ ⟨.setAle .transparent, .keep, none⟩,
    ⟨.drive (deviceAddress arg), .keep, none⟩,
    ⟨.wait 1, .keep, none⟩,
    ⟨.setAle .latched, .become .addressLatched, none⟩ ]

/-- LATCH_ADDR's `require bus = AddressDrive`, read strictly (R130, D15). -/
def latchAddrPre (s : State) : Bool := decide (s.bus = .addressDrive)

/-- LATCH_ADDR (R130). -/
def execLatchAddr (arg : Arg) (s : State) : Host.Outcome State Fault Refusal :=
  s.perform true latchAddrPre (latchAddrSteps arg) (fun _ => 0#20)

end Sys2Proof.Machine
end

