-- ==== Sys2Proof/Machine/BusDirection.lean ====
section
/-! DEFINITION. The bus direction controller (41_bus_direction.md): PREP_ADDR, DRIVE, PREP_READ, SAMPLE, PREP_WRITE, BUS_IDLE, each as the micro-step list
of its rule and as a command. -/

namespace Sys2Proof.Machine

/-- PREP_ADDR u1, u2 (R110). -/
def prepAddrSteps : List MicroStep :=
  [ ⟨.setDoe false, .idleIfDataRead, none⟩,
    ⟨.setDir .output, .become .addressDrive, none⟩ ]

/-- DRIVE u1 (R111). -/
def driveSteps (arg : Arg) : List MicroStep :=
  [ ⟨.drive (lineValue arg), .keep, none⟩ ]

/-- DRIVE's `require dir = Out` (R111). -/
def drivePre (s : State) : Bool := decide (s.dir = .output)

/-- PREP_READ u1, u2 (R112). -/
def prepReadSteps : List MicroStep :=
  [ ⟨.setDir .input, .idleIfOutputDisabled, none⟩,
    ⟨.setDoe true, .become .dataRead, none⟩ ]

/-- SAMPLE u1 (R113). -/
def sampleSteps : List MicroStep :=
  [ ⟨.sample, .keep, none⟩ ]

/-- SAMPLE's `require dir = In` (R113). -/
def samplePre (s : State) : Bool := decide (s.dir = .input)

/-- SAMPLE's response value: all 20 bits, unmasked (R113, 30_encoding.md R77). -/
def sampleValue (s : State) : Lines := s.rdVal

/-- PREP_WRITE u1 to u7 (R114, 92_eei_decisions.md D18; log 28). -/
def prepWriteSteps (data : Byte) : List MicroStep :=
  [ ⟨.setDoe false, .idleIfDataRead, none⟩,
    ⟨.setDir .output, .become .dataWrite, none⟩,
    ⟨.drive (dataLines data), .keep, none⟩,
    ⟨.setWe true, .keep, none⟩,
    ⟨.wait Config.writePulseUnits, .keep, none⟩,
    ⟨.setWe false, .keep, none⟩,
    ⟨.setDir .input, .become .idle, none⟩ ]

/-- BUS_IDLE u1, u2 (R115). -/
def busIdleSteps : List MicroStep :=
  [ ⟨.setDoe false, .idleIfDataRead, none⟩,
    ⟨.setDir .input, .become .idle, none⟩ ]

/-- PREP_ADDR (R110): no precondition. -/
def execPrepAddr (s : State) : Host.Outcome State Fault Refusal :=
  s.perform true (fun _ => true) prepAddrSteps (fun _ => 0#20)

/-- DRIVE (R111). -/
def execDrive (arg : Arg) (s : State) : Host.Outcome State Fault Refusal :=
  s.perform true drivePre (driveSteps arg) (fun _ => 0#20)

/-- PREP_READ (R112): no precondition. -/
def execPrepRead (s : State) : Host.Outcome State Fault Refusal :=
  s.perform true (fun _ => true) prepReadSteps (fun _ => 0#20)

/-- SAMPLE (R113). -/
def execSample (s : State) : Host.Outcome State Fault Refusal :=
  s.perform true samplePre sampleSteps sampleValue

/-- PREP_WRITE (R114): no precondition. -/
def execPrepWrite (data : Byte) (s : State) : Host.Outcome State Fault Refusal :=
  s.perform true (fun _ => true) (prepWriteSteps data) (fun _ => 0#20)

/-- BUS_IDLE (R115): no precondition. -/
def execBusIdle (s : State) : Host.Outcome State Fault Refusal :=
  s.perform true (fun _ => true) busIdleSteps (fun _ => 0#20)

end Sys2Proof.Machine
end

