-- ==== Sys2Proof/Machine/Timing.lean ====
section
/-! DEFINITION. The timing primitives (40_timing_primitives.md): the delay of READ_BYTE and the command DELAY. -/

namespace Sys2Proof.Machine

/-- The one micro-step of DELAY (R103): one `Wait` event of the class's units (R101, D38). -/
def delaySteps (cls : DelayClass) : List MicroStep :=
  [ ⟨.wait (delayUnits cls), .keep, none⟩ ]

/-- DELAY (R103): no precondition. -/
def execDelay (cls : DelayClass) (s : State) : Host.Outcome State Fault Refusal :=
  s.perform true (fun _ => true) (delaySteps cls) (fun _ => 0#20)

end Sys2Proof.Machine
end

