-- ==== Sys2Proof/Machine/ByteAccess.lean ====
section
/-! DEFINITION. The byte access state machine (43_byte_access.md): READ_BYTE and WRITE_BYTE, built from the procedures of the lower layers and from nothing
else (R147), and NOP. -/

namespace Sys2Proof.Machine

/-- The list with `phase <- p` written beside its first micro-step (R140). -/
def enterAtFirst (p : Phase) : List MicroStep → List MicroStep
  | [] => []
  | m :: ms => { m with phase := some p } :: ms

/-- The list with `phase <- p` written beside its last micro-step (R140). -/
def enterAtLast (p : Phase) : List MicroStep → List MicroStep
  | [] => []
  | [m] => [{ m with phase := some p }]
  | m :: m' :: ms => m :: enterAtLast p (m' :: ms)

/-- The address phase and the latch phase, u1 to u6 of both accesses (R141, R142, C3). -/
def addressSteps (arg : Arg) : List MicroStep :=
  enterAtFirst .addressPhase prepAddrSteps ++ enterAtLast .latchPhase (latchAddrSteps arg)

/-- READ_BYTE u1 to u12 (R141). -/
def readByteSteps (arg : Arg) : List MicroStep :=
  addressSteps arg ++ enterAtFirst .dataPhase prepReadSteps ++ delaySteps .long ++ sampleSteps ++
    enterAtLast .idle busIdleSteps

/-- READ_BYTE's response value: `zext_20(trunc_8(s))` (R141, 30_encoding.md R77). -/
def readByteValue (s : State) : Lines := dataLines (dataLane s.rdVal)

/-- WRITE_BYTE u1 to u13 (R142, 92_eei_decisions.md D18; log 28). -/
def writeByteSteps (arg : Arg) (data : Byte) : List MicroStep :=
  addressSteps arg ++ enterAtLast .idle (enterAtFirst .dataPhase (prepWriteSteps data))

/-- READ_BYTE (R141): no precondition, not a primitive. -/
def execReadByte (arg : Arg) (s : State) : Host.Outcome State Fault Refusal :=
  s.perform false (fun _ => true) (readByteSteps arg) readByteValue

/-- WRITE_BYTE (R142): no precondition, not a primitive. -/
def execWriteByte (arg : Arg) (data : Byte) (s : State) : Host.Outcome State Fault Refusal :=
  s.perform false (fun _ => true) (writeByteSteps arg data) (fun _ => 0#20)

/-- NOP (R143): no micro-step. -/
def execNop (s : State) : Host.Outcome State Fault Refusal :=
  s.perform false (fun _ => true) [] (fun _ => 0#20)

end Sys2Proof.Machine
end

