-- ==== Sys2Proof/Machine/Dispatch.lean ====
section
/-! DEFINITION. The dispatch: one arm per command. -/

namespace Sys2Proof.Machine

def exec (i : Instr) (s : State) : Host.Outcome State Fault Refusal :=
  match i with
  | .nop => Sys2Proof.Machine.execNop s
  | .readByte arg => Sys2Proof.Machine.execReadByte arg s
  | .writeByte arg data => Sys2Proof.Machine.execWriteByte arg data s
  | .prepAddr => Sys2Proof.Machine.execPrepAddr s
  | .drive arg => Sys2Proof.Machine.execDrive arg s
  | .prepRead => Sys2Proof.Machine.execPrepRead s
  | .sample => Sys2Proof.Machine.execSample s
  | .prepWrite data => Sys2Proof.Machine.execPrepWrite data s
  | .latchAddr arg => Sys2Proof.Machine.execLatchAddr arg s
  | .delay cls => Sys2Proof.Machine.execDelay cls s
  | .busIdle => Sys2Proof.Machine.execBusIdle s

end Sys2Proof.Machine
end

