-- ==== Sys2Proof/Machine/Command.lean ====
section
/-! DEFINITION. A command word at the block's port: its acceptance and its run to the response, the rest of a command in progress,
a command cut by reset, and the host's moves (30_encoding.md R78, 60_exceptions.md R194, 70_reset_and_hazards.md R211). -/

namespace Sys2Proof.Machine

/-- The precondition of each command (41_bus_direction.md R117): DRIVE, SAMPLE and LATCH_ADDR have one. -/
def precondition (i : Instr) (s : State) : Bool :=
  match i with
  | .nop => true
  | .readByte _ => true
  | .writeByte _ _ => true
  | .prepAddr => true
  | .drive _ => drivePre s
  | .prepRead => true
  | .sample => samplePre s
  | .prepWrite _ => true
  | .latchAddr _ => latchAddrPre s
  | .delay _ => true
  | .busIdle => true

/-- The micro-step list of each command: the same whatever the operands' values and the device (10_state.md R20). -/
def microSteps (i : Instr) : List MicroStep :=
  match i with
  | .nop => []
  | .readByte arg => readByteSteps arg
  | .writeByte arg data => writeByteSteps arg data
  | .prepAddr => prepAddrSteps
  | .drive arg => driveSteps arg
  | .prepRead => prepReadSteps
  | .sample => sampleSteps
  | .prepWrite data => prepWriteSteps data
  | .latchAddr arg => latchAddrSteps arg
  | .delay cls => delaySteps cls
  | .busIdle => busIdleSteps

/-- `rsp_value` of each command when its status is `OK` (30_encoding.md R77). -/
def resultValue (i : Instr) (s : State) : Lines :=
  match i with
  | .nop => 0#20
  | .readByte _ => readByteValue s
  | .writeByte _ _ => 0#20
  | .prepAddr => 0#20
  | .drive _ => 0#20
  | .prepRead => 0#20
  | .sample => sampleValue s
  | .prepWrite _ => 0#20
  | .latchAddr _ => 0#20
  | .delay _ => 0#20
  | .busIdle => 0#20

/-- A command word presented at a boundary: accepted, decoded, run to its response (30_encoding.md R77, R78). -/
def State.issue (w : CmdWord) (s : State) : Host.Outcome State Fault Refusal :=
  match decodeWord w with
  | .ok i => exec i (s.accept w)
  | .error _ => .next (s.accept w).performReserved

/-- The state just after the accepting edge: the command accepted and checked (30_encoding.md R78, 60_exceptions.md R185, R186). -/
def State.admitWord (w : CmdWord) (s : State) : State :=
  match decodeWord w with
  | .ok i => (s.accept w).runChecks i.isPrimitive (precondition i (s.accept w))
  | .error _ => (s.accept w).raise .illegalCommand

/-- The micro-steps still to run of the command in progress (10_state.md R20): none once a fault is recorded (60_exceptions.md R186, R187). -/
def State.pending (s : State) : List MicroStep :=
  match s.fault with
  | some _ => []
  | none =>
    match decodeWord s.cmdWord with
    | .ok i => (microSteps i).drop (s.ustep - 1)
    | .error _ => []

/-- The response of the command in progress once its micro-steps are over (30_encoding.md R77, 60_exceptions.md R187). -/
def State.response (s : State) : Response :=
  match s.fault with
  | some f => ⟨f.status, 0#20⟩
  | none =>
    match decodeWord s.cmdWord with
    | .ok i => ⟨.ok, resultValue i s⟩
    | .error _ => ⟨.illegalCommand, 0#20⟩

/-- The response is given and the command is over. -/
def State.finish (s : State) : State := s.answer s.response.status s.response.value

/-- The rest of a command in progress, to its response. -/
def State.resume (s : State) : Host.Outcome State Fault Refusal :=
  match runSteps s.pending s with
  | .next t => .next t.finish
  | .fault r => .fault r
  | .refused r => .refused r

/-- A command word presented at a boundary and cut by reset after `n` of its micro-steps (70_reset_and_hazards.md R211). -/
def State.issueCut (w : CmdWord) (n : Nat) (s : State) : Host.Outcome State Fault Refusal :=
  match runSteps ((s.admitWord w).pending.take n) (s.admitWord w) with
  | .next t => .next t.assertReset
  | .fault r => .fault r
  | .refused r => .refused r

/-- A program: command words issued in order, each after the response to the one before (30_encoding.md R79). -/
def issueAll : List CmdWord → State → Host.Outcome State Fault Refusal
  | [], s => .next s
  | w :: ws, s =>
    match s.issue w with
    | .next t => issueAll ws t
    | .fault r => .fault r
    | .refused r => .refused r

/-- One move of the host at a boundary (60_exceptions.md R194). -/
def State.hostMove (m : HostMove) (s : State) : Host.Outcome State Fault Refusal :=
  match m with
  | .pause => .next s
  | .command w => s.issue w
  | .commandCut w n => s.issueCut w n
  | .reset => .next s.assertReset

/-- The host takes its next move from its list. -/
def State.popMove (rest : List HostMove) (s : State) : State := { s with moves := rest }

end Sys2Proof.Machine
end

