-- ==== Sys2Proof/Machine/Step.lean ====
section
/-! DEFINITION. One step: the block leaves reset, or finishes the command in progress, or the host makes its next move, one whole command if that is it
(log 2). With no move left nothing changes: the pins hold their levels (10_state.md R14, 00_scope.md R5). -/

namespace Sys2Proof.Machine

def step (s : State) : Host.Outcome State Fault Refusal :=
  if s.inReset then .next s.leaveReset
  else if s.busy then s.resume
  else
    match s.moves with
    | [] => .next s
    | m :: rest => (s.popMove rest).hostMove m

/-- The state with the host about to present the command word `w`, the block out of reset and idle, so that the next step runs exactly it (log 3). -/
def State.withFetchWord (s : State) (_nbits w : Nat) : State :=
  { s with
    moves := .command (BitVec.ofNat 44 w) :: s.moves
    busy := false
    ustep := 0
    dlyCnt := 0
    inReset := false }

end Sys2Proof.Machine
end

