-- ==== Sys2Proof/Machine/Clock.lean ====
section
/-! DEFINITION. The clock machine: the reference rendering of the block, one rising edge of `clk` at a time (10_state.md R20, R21, R30;
30_encoding.md R78; 40_timing_primitives.md R104; 41_bus_direction.md R118; 70_reset_and_hazards.md R210, R211), and the ports. -/

namespace Sys2Proof.Machine

/-- The input ports at a rising edge (10_state.md R30); `sh_in` is `State.level`. -/
structure PortsIn where
  rstN : Bool
  cmdValid : Bool
  cmdWord : CmdWord
  deriving DecidableEq, Repr

/-- The output ports (10_state.md R30). `rsp`: none while `rsp_valid` is false, else `rsp_status` and `rsp_value`. -/
structure PortsOut where
  cmdReady : Bool
  rsp : Option (BitVec 2 × Lines)
  busy : Bool
  faultCode : BitVec 2
  busState : BitVec 3
  phaseO : BitVec 2
  shOut : Lines
  shOe : Bool
  doeO : Bool
  aleO : Bool
  weO : Bool
  ceO : Bool
  deriving DecidableEq, Repr

/-- `rsp_valid`: the cycle after the last micro-step (30_encoding.md R77, R78; 95_test_vectors.md P1). -/
def State.responding (s : State) : Bool := s.busy && !s.inReset && s.pending.isEmpty

/-- The output ports of a state (10_state.md R30, R34; 30_encoding.md R82; 70_reset_and_hazards.md R210). -/
def State.ports (s : State) : PortsOut where
  cmdReady := !s.busy && !s.inReset
  rsp := if s.responding then some (s.response.status.code, s.response.value) else none
  busy := s.busy
  faultCode := faultCode s.fault
  busState := s.bus.code
  phaseO := s.phase.code
  shOut := s.outVal
  shOe := s.dir.isOutput
  doeO := atPolarity s.cfg.polDoe s.doe
  aleO := atPolarity s.cfg.polAle s.ale.isTransparent
  weO := atPolarity s.cfg.polWe s.we
  ceO := atPolarity s.cfg.polCe s.ce

/-- `dly_cnt` at the end of a cycle of `wait(k)`: loaded with `k * N_SHORT` in the first cycle, counted down by one in each (40_timing_primitives.md R104; log 15). -/
def State.countDown (k : Nat) (s : State) : Nat :=
  (if s.dlyCnt = 0 then k * s.cfg.nShort else s.dlyCnt) - 1

/-- One micro-step at the end of its last cycle, with the bad state `BusContention` a stop (20_memory.md R43 (e)). -/
def State.clockStep (m : MicroStep) (s : State) : Host.Outcome State Fault Refusal :=
  if (s.microStep m).contention then .fault .busContention else .next (s.microStep m)

/-- One cycle of a command in progress: a cycle of a wait, or a whole other micro-step, or the response. -/
def State.busyCycle (s : State) : Host.Outcome State Fault Refusal :=
  match s.pending with
  | [] => .next s.finish
  | m :: _ =>
    match m.action with
    | .wait k => if s.countDown k = 0 then s.clockStep m else .next { s with dlyCnt := s.countDown k }
    | .setDoe _ => s.clockStep m
    | .setDir _ => s.clockStep m
    | .setAle _ => s.clockStep m
    | .setWe _ => s.clockStep m
    | .drive _ => s.clockStep m
    | .sample => s.clockStep m

/-- One rising edge of the clock. Reset wins over everything (60_exceptions.md R192); while `busy` is true `cmd_valid` is not looked at (30_encoding.md R78). -/
def tick (p : PortsIn) (s : State) : Host.Outcome State Fault Refusal :=
  if !p.rstN then .next s.assertReset
  else if s.inReset then .next s.leaveReset
  else if s.busy then s.busyCycle
  else if p.cmdValid then .next (s.admitWord p.cmdWord)
  else .next s

/-- Rising edges one after another. -/
def runClock : List PortsIn → State → Host.Outcome State Fault Refusal
  | [], s => .next s
  | p :: ps, s =>
    match tick p s with
    | .next t => runClock ps t
    | .fault r => .fault r
    | .refused r => .refused r

/-- The cycles of one micro-step in the reference rendering (41_bus_direction.md R118, 40_timing_primitives.md R104). -/
def stepCycles (n : Nat) (m : MicroStep) : Nat :=
  match m.action with
  | .wait k => k * n
  | .setDoe _ => 1
  | .setDir _ => 1
  | .setAle _ => 1
  | .setWe _ => 1
  | .drive _ => 1
  | .sample => 1

/-- The cycles of a micro-step list in the reference rendering (70_reset_and_hazards.md R228). -/
def listCycles (n : Nat) : List MicroStep → Nat
  | [] => 0
  | m :: ms => stepCycles n m + listCycles n ms

end Sys2Proof.Machine
end

