-- ==== Sys2Proof/Machine/HostClients.lean ====
section
/-! DEFINITION. The host-side clients of 44_host_clients.md: `verify` and `format_row`. They are programs of the host, outside the block (R160); their only
contact with the block is READ_BYTE. -/

namespace Sys2Proof.Machine

/-- `VerifyResult` (R161). -/
inductive VerifyResult where
  | success
  | mismatchAt (offset : Nat) (expected actual : Byte)
  deriving DecidableEq, Repr

/-- How a run of `verify` ends: with its result, with a status other than `OK` reported (R162, U10; log 18), or with the machine stopped. -/
inductive VerifyEnd where
  | result (r : VerifyResult)
  | blockFault (status : Status)
  | stopped
  deriving DecidableEq, Repr

/-- READ_BYTE issued by the host at an address computed in its own integers: the sum modulo `2^32` is the operand (R162, D30). -/
def readAt (address : Nat) (s : State) : Host.Outcome State Fault Refusal :=
  s.issue (encode (.readByte (BitVec.ofNat 32 address)))

/-- The response the host has just received. -/
def State.lastResponse (s : State) : Response := s.responses.getLastD ⟨.ok, 0#20⟩

/-- `verify` from the relative offset `i` on (R162): one READ_BYTE per expected byte, stop at the first difference. -/
def verifyFrom (start : Nat) : Nat → List Byte → State → VerifyEnd × State
  | _, [], s => (.result .success, s)
  | i, e :: rest, s =>
    match readAt (start + i) s with
    | .next t =>
      if t.lastResponse.status = .ok then
        if dataLane t.lastResponse.value = e then verifyFrom start (i + 1) rest t
        else (.result (.mismatchAt i e (dataLane t.lastResponse.value)), t)
      else (.blockFault t.lastResponse.status, t)
    | .fault _ => (.stopped, s)
    | .refused _ => (.stopped, s)

/-- `verify(expected, start_address)` (R162). -/
def verify (expected : List Byte) (start : Nat) (s : State) : VerifyEnd × State :=
  verifyFrom start 0 expected s

/-- The byte source's "sequential bounded read returning (bytes_read, bytes)" (R164): how many bytes, the bytes, the source after; a count of zero is end of stream. -/
def sourceRead (bound : Nat) (source : List Byte) : Nat × List Byte × List Byte :=
  ((source.take bound).length, source.take bound, source.drop bound)

/-- `verify` with the byte source read in chunks of at most `chunk` bytes (R162, R165), for at most `fuel` reads of the source. -/
def verifyChunks (chunk start : Nat) : Nat → Nat → List Byte → State → VerifyEnd × State
  | 0, _, _, s => (.result .success, s)
  | fuel + 1, i, source, s =>
    if (sourceRead chunk source).1 = 0 then (.result .success, s)
    else
      match verifyFrom start i (sourceRead chunk source).2.1 s with
      | (.result .success, t) =>
        verifyChunks chunk start fuel (i + (sourceRead chunk source).1) (sourceRead chunk source).2.2 t
      | (.result (.mismatchAt k e a), t) => (.result (.mismatchAt k e a), t)
      | (.blockFault st, t) => (.blockFault st, t)
      | (.stopped, t) => (.stopped, t)

/-- `verify` as the client runs it, `CHUNK` bytes of the source at a time (R165). -/
def verifyChunked (source : List Byte) (start : Nat) (s : State) : VerifyEnd × State :=
  verifyChunks s.cfg.chunk start (source.length + 1) 0 source s

/-- A `HexDumpRow` (R167): the address label, the byte pairs, the glyphs; a string is its list of characters. -/
structure HexDumpRow where
  addr : List Char
  pairs : List (List Char)
  glyphs : List Byte
  deriving DecidableEq, Repr

/-- An uppercase hexadecimal digit (R166). -/
def hexDigit (n : Nat) : Char :=
  match n with
  | 0 => '0'
  | 1 => '1'
  | 2 => '2'
  | 3 => '3'
  | 4 => '4'
  | 5 => '5'
  | 6 => '6'
  | 7 => '7'
  | 8 => '8'
  | 9 => '9'
  | 10 => 'A'
  | 11 => 'B'
  | 12 => 'C'
  | 13 => 'D'
  | 14 => 'E'
  | _ => 'F'

/-- The low `width` hexadecimal digits of a number, most significant first, zero-padded (R166). -/
def hexString : Nat → Nat → List Char
  | 0, _ => []
  | width + 1, n => hexString width (n / 16) ++ [hexDigit (n % 16)]

/-- `format_row` (R166, R167, R170): six digits of the address modulo `2^24`, a pair per byte, the bytes as glyphs; with a count other than sixteen it has
no meaning. -/
def formatRow (base : Nat) (bytes : List Byte) : Option HexDumpRow :=
  if bytes.length = 16 then
    some
      { addr := hexString 6 (base % 2 ^ 24)
        pairs := bytes.map fun b => hexString 2 b.toNat
        glyphs := bytes }
  else none

end Sys2Proof.Machine
end

