-- ==== Sys2Proof/Safety.lean ====
section
/-! DEFINITION. What a safe run is: the invariants of 10_state.md section 4 and the named premises of 70_reset_and_hazards.md R230, in the terms statements use. -/

namespace Sys2Proof.Machine

/-- The table of 10_state.md R12: `bus` and the pin fields agree. -/
def State.busTable (s : State) : Bool :=
  match s.bus with
  | .idle => decide (s.dir = .input) && !s.doe && !s.we && decide (s.ale = .latched)
  | .addressDrive => decide (s.dir = .output) && !s.doe && !s.we
  | .addressLatched => decide (s.dir = .output) && !s.doe && !s.we && decide (s.ale = .latched)
  | .dataRead => decide (s.dir = .input) && s.doe && !s.we && decide (s.ale = .latched)
  | .dataWrite => decide (s.dir = .output) && !s.doe && decide (s.ale = .latched)

/-- The pin fields, `phase` and `dly_cnt` as 10_state.md R27 has them at a command boundary; a command just accepted still has them so. -/
def State.pinsAtRest (s : State) : Bool :=
  s.busTable && decide (s.dlyCnt = 0) && decide (s.phase = .idle) && !s.we && decide (s.ale = .latched) &&
    decide (s.bus ≠ .dataWrite)

/-- `AtBoundary` (70_reset_and_hazards.md R230): 10_state.md R12 and R27 hold. -/
def State.atBoundary (s : State) : Bool :=
  s.pinsAtRest && !s.busy && decide (s.ustep = 0)

/-- The known locations of the device are in canonical form (log 7). -/
def State.deviceWf (s : State) : Bool := Memory.wf s.dev.known

/-- `ce` holds `CE_STATIC` (10_state.md R15). -/
def State.ceConstant (s : State) : Bool := s.ce == s.cfg.ceStatic

/-- The invariant every step keeps: a boundary state, the device's memory in canonical form, Chip-Enable at its constant level. -/
def State.inv (s : State) : Bool := s.atBoundary && s.deviceWf && s.ceConstant

/-- `NoFault` (70_reset_and_hazards.md R230). -/
def State.NoFault (s : State) : Prop := s.fault = none

/-- `TimingOK` (70_reset_and_hazards.md R230): the obligations of 40_timing_primitives.md R106. -/
def State.TimingOK (s : State) : Prop := s.cfg.timingOK = true

/-- `Selected` (70_reset_and_hazards.md R230): the device is selected (10_state.md R15). -/
def State.Selected (s : State) : Prop := s.ce = true

/-- The part of `EnvOK` (70_reset_and_hazards.md R230) the model leaves to a premise: the device is not stuck (20_memory.md R57). -/
def State.EnvOK (s : State) : Prop := s.dev.stuck = false

/-- `LatchKnown a` (70_reset_and_hazards.md R230). -/
def State.LatchKnown (a : Lines) (s : State) : Prop := s.devAlatch = a

/-- `NoReset` for the host's moves to come (70_reset_and_hazards.md R230). -/
def HostMove.keepsOutOfReset : HostMove → Bool
  | .pause => true
  | .command _ => true
  | .commandCut _ _ => false
  | .reset => false

/-- A command may start: pins at rest and no fault recorded. -/
def State.Ready (s : State) : Prop := s.pinsAtRest = true ∧ s.NoFault

/-- A primitive may start: ready, and the primitives are accepted (30_encoding.md R76). -/
def State.ReadyForPrimitive (s : State) : Prop := s.Ready ∧ s.cfg.primEn = true

/-- `t` is `s` after one response `(st, v)` with the handshake closed (30_encoding.md R77, R78). -/
def Answered (s t : State) (st : Status) (v : Lines) : Prop :=
  t.responses = s.responses ++ [⟨st, v⟩] ∧ t.busy = false ∧ t.ustep = 0

/-- The pin trace of `t` is that of `s` followed by `evs`. -/
def Emitted (s t : State) (evs : List PinEvent) : Prop := t.trace = s.trace ++ evs

/-- What no command that runs writes: the parameters, Chip-Enable, the holding registers, the fault record, the host's moves; and `phase` and `dly_cnt` are back. -/
def KeepsRecord (s t : State) : Prop :=
  t.cfg = s.cfg ∧ t.ce = s.ce ∧ t.curOp = s.curOp ∧ t.curData = s.curData ∧ t.curArg = s.curArg ∧
  t.fault = s.fault ∧ t.faultCw = s.faultCw ∧ t.phase = s.phase ∧ t.dlyCnt = s.dlyCnt ∧
  t.inReset = s.inReset ∧ t.moves = s.moves

/-- The device is untouched: its address latch and every byte of it. -/
def KeepsDevice (s t : State) : Prop :=
  t.devAlatch = s.devAlatch ∧ t.dev = s.dev ∧ ∀ a : Lines, t.dev.read a = s.dev.read a

/-- The two registers of the shared lines are unchanged. -/
def KeepsLineRegisters (s t : State) : Prop := t.outVal = s.outVal ∧ t.rdVal = s.rdVal

/-- Write-Enable and Address-Latch-Enable are unchanged. -/
def KeepsStrobes (s t : State) : Prop := t.we = s.we ∧ t.ale = s.ale

/-- All control lines at their idle levels and nobody driving (10_state.md R14, 41_bus_direction.md R114, R115). -/
def PinsIdle (t : State) : Prop :=
  t.bus = .idle ∧ t.dir = .input ∧ t.doe = false ∧ t.we = false ∧ t.ale = .latched

/-- The same state but for the holding registers and the command word a fault recorded (30_encoding.md R74). -/
def SameButCommandWord (t u : State) : Prop :=
  { t with curOp := u.curOp, curData := u.curData, curArg := u.curArg, faultCw := u.faultCw } = u

/-- The pin trace of READ_BYTE with the sample `v` (43_byte_access.md R146). -/
def readTrace (arg : Arg) (v : Lines) : List PinEvent :=
  [.setDoe false, .setDir .output, .setAle .transparent, .drive (deviceAddress arg), .wait 1, .setAle .latched,
    .setDir .input, .setDoe true, .wait 3, .sample v, .setDoe false, .setDir .input]

/-- The pin trace of WRITE_BYTE (43_byte_access.md R146). -/
def writeTrace (arg : Arg) (data : Byte) : List PinEvent :=
  [.setDoe false, .setDir .output, .setAle .transparent, .drive (deviceAddress arg), .wait 1, .setAle .latched,
    .setDoe false, .setDir .output, .drive (dataLines data), .setWe true, .wait 1, .setWe false, .setDir .input]

/-- The legality table of 41_bus_direction.md R117, row by row; at `DataWrite`, no boundary state, nothing is legal. -/
def legalAt (i : Instr) (b : BusState) : Bool :=
  decide (b ≠ .dataWrite) &&
    match i with
    | .nop => true
    | .delay _ => true
    | .readByte _ => true
    | .writeByte _ _ => true
    | .prepAddr => true
    | .drive _ => decide (b = .addressDrive) || decide (b = .addressLatched)
    | .prepRead => true
    | .sample => decide (b = .idle) || decide (b = .dataRead)
    | .prepWrite _ => true
    | .latchAddr _ => decide (b = .addressDrive)
    | .busIdle => true

/-- `bus` and `phase` after each micro-step of a list. -/
def ownerPath : List MicroStep → State → List (Phase × BusState)
  | [], _ => []
  | m :: ms, s => ((s.microStep m).phase, (s.microStep m).bus) :: ownerPath ms (s.microStep m)

/-- The state an accepted word leaves when it is answered with no micro-step: the handshake done, one response (60_exceptions.md R186, R187). -/
def State.answeredAtOnce (w : CmdWord) (st : Status) (s : State) : State :=
  { s with
    busy := false
    ustep := 0
    curOp := opField w
    curData := dataField w
    curArg := argField w
    responses := s.responses ++ [⟨st, 0#20⟩] }

/-- That state with the fault `x` taken by the word (60_exceptions.md R186). -/
def State.faultedBy (w : CmdWord) (x : BlockFault) (s : State) : State :=
  { s.answeredAtOnce w x.status with fault := some x, faultCw := w }

/-- The waits of an address-latch sequence's shape (42_address_latch.md R134): every `SetALE` of the trace stands in a block
`SetALE(Transparent), Drive(a), Wait(k), SetALE(Latched)` with `k` at least 1. -/
def latchSequenced : List PinEvent → Bool
  | [] => true
  | .setAle .transparent :: .drive _ :: .wait k :: .setAle .latched :: rest => decide (1 ≤ k) && latchSequenced rest
  | .setAle _ :: _ => false
  | .setDoe _ :: rest => latchSequenced rest
  | .setDir _ :: rest => latchSequenced rest
  | .setWe _ :: rest => latchSequenced rest
  | .drive _ :: rest => latchSequenced rest
  | .wait _ :: rest => latchSequenced rest
  | .sample _ :: rest => latchSequenced rest
  | .reset :: rest => latchSequenced rest

end Sys2Proof.Machine
end

