-- ==== Sys2Proof/Certificates/Slice0/Obligations.lean ====
section
/-! DEFINITION. The statements for the provers. -/

open Sys2Proof Sys2Proof.Machine

/-! ### Encoding (30_encoding.md) -/

/-- The worked encodings of 30_encoding.md section 9. -/
def Obligations.WorkedEncodingsDecode : Prop :=
  decodeWord 0x00000000000#44 = .ok .nop ∧
  decodeWord 0x10000000042#44 = .ok (.readByte 0x00000042#32) ∧
  decodeWord 0x10000100042#44 = .ok (.readByte 0x00100042#32) ∧
  decodeWord 0x25A00000010#44 = .ok (.writeByte 0x00000010#32 0x5A#8) ∧
  decodeWord 0x80000000000#44 = .ok .prepAddr ∧
  decodeWord 0x90000000123#44 = .ok (.drive 0x00000123#32) ∧
  decodeWord 0xA0000000000#44 = .ok .prepRead ∧
  decodeWord 0xB0000000000#44 = .ok .sample ∧
  decodeWord 0xC5A00000000#44 = .ok (.prepWrite 0x5A#8) ∧
  decodeWord 0xD0000000042#44 = .ok (.latchAddr 0x00000042#32) ∧
  decodeWord 0xE0000000000#44 = .ok (.delay .short) ∧
  decodeWord 0xE0000000001#44 = .ok (.delay .long) ∧
  decodeWord 0xF0000000000#44 = .ok .busIdle ∧
  decodeWord 0x30000000000#44 = .error (.reservedOp 0x3#4)

/-- 30_encoding.md R70 to R73, R79: the decoder reads back every instruction from the assembler's word, every operand whole. -/
def Obligations.DecodeOfEncode : Prop :=
  ∀ i : Instr, i.wellFormed = true → decodeWord (encode i) = .ok i

/-- 30_encoding.md R71, R73, R79: the assembler's word of a decoded word is that word with the ignored bits zero. -/
def Obligations.EncodeOfDecode : Prop :=
  ∀ (w : CmdWord) (i : Instr), decodeWord w = .ok i → encode i = w &&& (opMask ||| i.readMask)

/-- 30_encoding.md R72, R75: `OP` alone selects the operation, by match and mask; the group is that of the opcode map; exactly the values 3 to 7 select none. -/
def Obligations.OpcodeAloneSelects : Prop :=
  (∀ w : CmdWord, (∃ i, decodeWord w = .ok i) ↔ ¬(3 ≤ (opField w).toNat ∧ (opField w).toNat ≤ 7)) ∧
  ∀ (w : CmdWord) (i : Instr), decodeWord w = .ok i →
    w &&& opMask = packWord i.opcode 0#8 0#32 ∧ (i.isPrimitive = true ↔ 8 ≤ (opField w).toNat)

/-- 30_encoding.md R74. -/
def Obligations.IgnoredFieldsChangeNothing : Prop :=
  (∀ i : Instr, encode i &&& ~~~(opMask ||| i.readMask) = 0#44) ∧
  ∀ (w w' : CmdWord) (i : Instr), decodeWord w = .ok i →
    w &&& (opMask ||| i.readMask) = w' &&& (opMask ||| i.readMask) →
    decodeWord w' = .ok i ∧
    ∀ s t : State, s.issue w = .next t →
      t.curData = dataField w ∧ t.curArg = argField w ∧
      (s.fault = none → t.fault ≠ none → t.faultCw = w) ∧
      ∃ t', s.issue w' = .next t' ∧ SameButCommandWord t t'

/-- 30_encoding.md R75. -/
def Obligations.ReservedOpcodesFault : Prop :=
  ∀ (w : CmdWord) (s : State), 3 ≤ (opField w).toNat → (opField w).toNat ≤ 7 → s.fault = none →
    decodeWord w = .error (.reservedOp (opField w)) ∧ s.issue w = .next (s.faultedBy w .illegalCommand)

/-- 30_encoding.md R76. -/
def Obligations.NarrowInterface : Prop :=
  (∀ (w : CmdWord) (s : State), 8 ≤ (opField w).toNat → s.cfg.primEn = false → s.fault = none →
    s.issue w = .next (s.faultedBy w .illegalCommand)) ∧
  (∀ (w : CmdWord) (i : Instr) (s t : State), decodeWord w = .ok i → i.acceptedBy s.cfg = true → s.fault = none →
    s.issue w = .next t → t.fault ≠ some .illegalCommand) ∧
  (∀ (w : CmdWord) (i : Instr) (s : State), decodeWord w = .ok i → i.acceptedBy s.cfg = true → s.fault = none →
    precondition i s = false → s.issue w = .next (s.faultedBy w .busTimingViolation))

/-! ### The step (30_encoding.md R78, 10_state.md R14) -/

/-- A step of an idle block out of reset runs the command the host presents: the decoded instruction, at the state with the word accepted and the move taken
from the host's list (that a step is a whole command, and that the host's moves stand in a list, is the model's choice, log 2, 3). -/
def Obligations.StepRunsDecodedCommand : Prop :=
  ∀ (s : State) (w : CmdWord) (rest : List HostMove) (i : Instr), s.inReset = false → s.busy = false →
    s.moves = .command w :: rest → decodeWord w = .ok i →
    step s = exec i { s with
      moves := rest
      busy := true
      curOp := opField w
      curData := dataField w
      curArg := argField w
      ustep := 1 }

/-- A step after `withFetchWord` runs the table's word, from any state (log 3: the model's own way to place a command). -/
def Obligations.FetchWordRunsNext : Prop :=
  ∀ (s : State) (n w : Nat) (i : Instr), decodeTableWord n w = some i →
    step (s.withFetchWord n w) =
      exec i (({ s with busy := false, ustep := 0, dlyCnt := 0, inReset := false } : State).accept (BitVec.ofNat 44 w))

/-- 10_state.md R14, 60_exceptions.md R194: between commands nothing changes, however long the host waits (the list of moves is the model's, log 3). -/
def Obligations.PinsHoldBetweenCommands : Prop :=
  ∀ s : State, s.inReset = false → s.busy = false →
    (s.moves = [] → step s = .next s) ∧
    ∀ rest, s.moves = .pause :: rest → step s = .next { s with moves := rest }

/-! ### Faults (60_exceptions.md) -/

/-- 60_exceptions.md R187. -/
def Obligations.RefusedAfterFault : Prop :=
  ∀ (s : State) (w : CmdWord) (f : BlockFault), s.fault = some f → s.issue w = .next (s.answeredAtOnce w f.status)

/-- 60_exceptions.md R188. -/
def Obligations.FirstFaultWins : Prop :=
  (∀ (s t : State) (f : BlockFault), s.fault = some f → (∀ m ∈ s.moves, m.keepsOutOfReset = true) → step s = .next t →
    t.fault = some f ∧ t.faultCw = s.faultCw) ∧
  ∀ s : State, s.assertReset.fault = none ∧ PinsIdle s.assertReset

/-- 60_exceptions.md R186. -/
def Obligations.FaultEntry : Prop :=
  ∀ (s t : State) (w : CmdWord) (x : BlockFault), s.fault = none → s.issue w = .next t → t.fault = some x →
    t = s.faultedBy w x ∧ (s.atBoundary = true → t.atBoundary = true)

/-- 60_exceptions.md R185. -/
def Obligations.CheckOrder : Prop :=
  ∀ (s : State) (w : CmdWord),
    (∀ f, s.fault = some f → s.issue w = .next (s.answeredAtOnce w f.status)) ∧
    (s.fault = none → (∀ i, decodeWord w = .ok i → i.acceptedBy s.cfg = false) →
      s.issue w = .next (s.faultedBy w .illegalCommand)) ∧
    (∀ i, s.fault = none → decodeWord w = .ok i → i.acceptedBy s.cfg = true → precondition i s = false →
      s.issue w = .next (s.faultedBy w .busTimingViolation)) ∧
    (∀ i t, s.fault = none → decodeWord w = .ok i → i.acceptedBy s.cfg = true → precondition i s = true →
      s.issue w = .next t → t.fault = none)

/-- 60_exceptions.md R181: exactly the failed `require` of an accepted DRIVE, SAMPLE or LATCH_ADDR raises it, from any state; no other word does. -/
def Obligations.ViolationExactlyWhen : Prop :=
  ∀ (s : State) (w : CmdWord), s.fault = none →
    ((s.issue w = .next (s.faultedBy w .busTimingViolation)) ↔
      ∃ i, decodeWord w = .ok i ∧ i.acceptedBy s.cfg = true ∧
        ((∃ arg, i = .drive arg ∧ s.dir ≠ .output) ∨ (i = .sample ∧ s.dir ≠ .input) ∨
          (∃ arg, i = .latchAddr arg ∧ s.bus ≠ .addressDrive))) ∧
    ∀ t, s.issue w = .next t → t.fault = some .busTimingViolation → t = s.faultedBy w .busTimingViolation

/-- 41_bus_direction.md R117, over every boundary state. What it says of PREP_WRITE or WRITE_BYTE rests on 92_eei_decisions.md D18 (log 28). -/
def Obligations.LegalityTable : Prop :=
  ∀ (s : State) (i : Instr), s.ReadyForPrimitive →
    (legalAt i s.bus = true →
      ∃ t v, exec i s = .next t ∧ t.fault = none ∧ t.responses = s.responses ++ [⟨.ok, v⟩]) ∧
    (legalAt i s.bus = false →
      ∃ t, exec i s = .next t ∧ t.fault = some .busTimingViolation ∧
        t.responses = s.responses ++ [⟨.busTimingViolation, 0#20⟩])

/-- 43_byte_access.md R145. What it says of PREP_WRITE or WRITE_BYTE rests on 92_eei_decisions.md D18 (log 28). -/
def Obligations.AccessesNeverFault : Prop :=
  ∀ (ws : List CmdWord) (s : State), s.atBoundary = true → s.NoFault →
    (∀ w ∈ ws, ∃ i, decodeWord w = .ok i ∧ i.isPrimitive = false) →
    ∃ t rs, issueAll ws s = .next t ∧ t.fault = none ∧ t.atBoundary = true ∧ t.responses = s.responses ++ rs ∧
      rs.length = ws.length ∧ ∀ r ∈ rs, r.status = .ok

/-! ### What each command does, and what it leaves (41_bus_direction.md, 42_address_latch.md, 43_byte_access.md, 40_timing_primitives.md) -/

/-- 43_byte_access.md R143: NOP gives its response and changes nothing else. -/
def Obligations.NopAnswersOnly : Prop :=
  ∀ s : State, s.NoFault →
    exec .nop s = .next { s with responses := s.responses ++ [⟨.ok, 0#20⟩], busy := false, ustep := 0 }

/-- 40_timing_primitives.md R103: DELAY waits and changes no pin, no register and no byte of the device. -/
def Obligations.DelayWaitsOnly : Prop :=
  ∀ (s : State) (c : DelayClass), s.ReadyForPrimitive →
    ∃ t, exec (.delay c) s = .next t ∧ Answered s t .ok 0#20 ∧
      Emitted s t [.wait (match c with | .short => 1 | .long => 3)] ∧
      KeepsRecord s t ∧ KeepsDevice s t ∧ KeepsLineRegisters s t ∧ KeepsStrobes s t ∧
      t.bus = s.bus ∧ t.dir = s.dir ∧ t.doe = s.doe

/-- 41_bus_direction.md R110: PREP_ADDR takes the device off the lines, then turns them to outputs. -/
def Obligations.PrepAddrTurnsLinesOut : Prop :=
  ∀ s : State, s.ReadyForPrimitive →
    ∃ t, exec .prepAddr s = .next t ∧ Answered s t .ok 0#20 ∧ Emitted s t [.setDoe false, .setDir .output] ∧
      t.doe = false ∧ t.dir = .output ∧ t.bus = .addressDrive ∧
      KeepsRecord s t ∧ KeepsDevice s t ∧ KeepsLineRegisters s t ∧ KeepsStrobes s t

/-- 41_bus_direction.md R111: DRIVE writes the low twenty bits of `ARG` onto the lines; the device's frozen latch does not follow. -/
def Obligations.DriveWritesLines : Prop :=
  ∀ (s : State) (arg : Arg), s.ReadyForPrimitive → s.dir = .output →
    ∃ t, exec (.drive arg) s = .next t ∧ Answered s t .ok 0#20 ∧ Emitted s t [.drive (arg.extractLsb' 0 20)] ∧
      t.outVal = arg.extractLsb' 0 20 ∧ t.rdVal = s.rdVal ∧ t.bus = s.bus ∧ t.dir = s.dir ∧ t.doe = s.doe ∧
      KeepsRecord s t ∧ KeepsDevice s t ∧ KeepsStrobes s t

/-- 41_bus_direction.md R112: PREP_READ turns the lines to inputs, then enables the device; the validity clock of 20_memory.md R46 starts again only if the
device was not enabled (the clock is the model's field, log 9). -/
def Obligations.PrepReadEnablesDevice : Prop :=
  ∀ s : State, s.ReadyForPrimitive →
    ∃ t, exec .prepRead s = .next t ∧ Answered s t .ok 0#20 ∧ Emitted s t [.setDir .input, .setDoe true] ∧
      t.dir = .input ∧ t.doe = true ∧ t.bus = .dataRead ∧
      t.sinceValid = (if s.doe then s.sinceValid else 0) ∧
      KeepsRecord s t ∧ KeepsDevice s t ∧ KeepsLineRegisters s t ∧ KeepsStrobes s t

/-- 41_bus_direction.md R113, 20_memory.md R43, R46, R58: SAMPLE answers the level of the lines, all twenty bits: the device's byte with the upper lines floating
when its data is valid, else a free value; each sample a fresh one (the numbering of free values is the model's, log 6). -/
def Obligations.SampleReadsLines : Prop :=
  ∀ s : State, s.ReadyForPrimitive → s.dir = .input →
    ∃ t, exec .sample s = .next t ∧ Answered s t .ok t.rdVal ∧ Emitted s t [.sample t.rdVal] ∧
      (s.doe = true → s.ce = true → s.dev.stuck = false → 3 ≤ s.sinceValid → s.TimingOK →
        t.rdVal = Config.draw20 s.draws &&& 0xFFF00#20 ||| (s.dev.read s.devAlatch).setWidth 20) ∧
      (s.doe = false ∨ s.ce = false ∨ s.dev.stuck = true ∨ s.sinceValid < 3 → t.rdVal = Config.draw20 s.draws) ∧
      t.draws = s.draws + 1 ∧
      t.outVal = s.outVal ∧ t.bus = s.bus ∧ t.dir = s.dir ∧ t.doe = s.doe ∧
      KeepsRecord s t ∧ KeepsDevice s t ∧ KeepsStrobes s t

/-- 41_bus_direction.md R114, 20_memory.md R47, R48: PREP_WRITE pulses Write-Enable with the byte on the lines and ends with every line idle; the byte is
stored at the address the device's latch holds, and at no other. The write path rests on 92_eei_decisions.md D18 (70_reset_and_hazards.md R226; log 28). -/
def Obligations.PrepWriteStoresByte : Prop :=
  ∀ (s : State) (data : Byte), s.ReadyForPrimitive →
    ∃ t, exec (.prepWrite data) s = .next t ∧ Answered s t .ok 0#20 ∧
      Emitted s t [.setDoe false, .setDir .output, .drive (data.setWidth 20), .setWe true, .wait 1, .setWe false,
        .setDir .input] ∧
      PinsIdle t ∧ t.outVal = data.setWidth 20 ∧ t.rdVal = s.rdVal ∧ t.devAlatch = s.devAlatch ∧ KeepsRecord s t ∧
      (s.ce = true → s.TimingOK → t.dev = s.dev.write s.devAlatch data) ∧
      (s.ce = true → s.TimingOK → s.dev.kind = .ram →
        ∀ a : Lines, t.dev.read a = if a = s.devAlatch then data else s.dev.read a) ∧
      (s.ce = true → s.TimingOK → s.dev.kind = .rom → ∀ a : Lines, t.dev.read a = s.dev.read a) ∧
      (s.ce = false → t.dev = s.dev)

/-- 42_address_latch.md R130: LATCH_ADDR drives the address and freezes it in the device's latch; no byte of the device changes. -/
def Obligations.LatchAddrLatches : Prop :=
  ∀ (s : State) (arg : Arg), s.ReadyForPrimitive → s.bus = .addressDrive →
    ∃ t, exec (.latchAddr arg) s = .next t ∧ Answered s t .ok 0#20 ∧
      Emitted s t [.setAle .transparent, .drive (arg.extractLsb' 0 20), .wait 1, .setAle .latched] ∧
      t.outVal = arg.extractLsb' 0 20 ∧ t.rdVal = s.rdVal ∧ t.bus = .addressLatched ∧ t.dir = s.dir ∧ t.doe = s.doe ∧
      (s.TimingOK → t.devAlatch = arg.extractLsb' 0 20) ∧
      t.dev = s.dev ∧ (∀ a : Lines, t.dev.read a = s.dev.read a) ∧ KeepsRecord s t ∧ KeepsStrobes s t

/-- 41_bus_direction.md R115: BUS_IDLE takes the device off the lines and lets go of them. -/
def Obligations.BusIdleReleasesLines : Prop :=
  ∀ s : State, s.ReadyForPrimitive →
    ∃ t, exec .busIdle s = .next t ∧ Answered s t .ok 0#20 ∧ Emitted s t [.setDoe false, .setDir .input] ∧
      PinsIdle t ∧ KeepsRecord s t ∧ KeepsDevice s t ∧ KeepsLineRegisters s t ∧ KeepsStrobes s t

/-- 43_byte_access.md R141: READ_BYTE samples once, answers the data lane zero-extended, and ends with every line idle; no byte of the device changes. -/
def Obligations.ReadByteCompletes : Prop :=
  ∀ (s : State) (arg : Arg), s.Ready →
    ∃ t, exec (.readByte arg) s = .next t ∧ Answered s t .ok ((t.rdVal.extractLsb' 0 8).setWidth 20) ∧
      PinsIdle t ∧ t.outVal = arg.extractLsb' 0 20 ∧ (s.TimingOK → t.devAlatch = arg.extractLsb' 0 20) ∧
      t.dev = s.dev ∧ (∀ a : Lines, t.dev.read a = s.dev.read a) ∧ KeepsRecord s t

/-- 43_byte_access.md R142, 20_memory.md R47, R48: WRITE_BYTE stores its byte at its address truncated to twenty bits, and at no other, and ends with every line idle.
The write path rests on 92_eei_decisions.md D18 (70_reset_and_hazards.md R226; log 28). -/
def Obligations.WriteByteCompletes : Prop :=
  ∀ (s : State) (arg : Arg) (data : Byte), s.Ready →
    ∃ t, exec (.writeByte arg data) s = .next t ∧ Answered s t .ok 0#20 ∧
      PinsIdle t ∧ t.outVal = data.setWidth 20 ∧ t.rdVal = s.rdVal ∧
      (s.TimingOK → t.devAlatch = arg.extractLsb' 0 20) ∧ KeepsRecord s t ∧
      (s.ce = true → s.TimingOK → t.dev = s.dev.write (arg.extractLsb' 0 20) data) ∧
      (s.ce = true → s.TimingOK → s.dev.kind = .ram →
        ∀ a : Lines, t.dev.read a = if a = arg.extractLsb' 0 20 then data else s.dev.read a) ∧
      (s.ce = true → s.TimingOK → s.dev.kind = .rom → ∀ a : Lines, t.dev.read a = s.dev.read a) ∧
      (s.ce = false → t.dev = s.dev)

/-- 43_byte_access.md R141 (result), 20_memory.md R46, R51: with the device selected, working and in time, READ_BYTE answers the device's byte at the truncated
address, and the same read again answers the same. -/
def Obligations.ReadReturnsDeviceByte : Prop :=
  ∀ (s : State) (arg : Arg), s.Ready → s.Selected → s.TimingOK → s.EnvOK →
    ∃ t, exec (.readByte arg) s = .next t ∧
      t.responses = s.responses ++ [⟨.ok, (s.dev.read (arg.extractLsb' 0 20)).setWidth 20⟩] ∧
      ∃ u, exec (.readByte arg) t = .next u ∧
        u.responses = t.responses ++ [⟨.ok, (s.dev.read (arg.extractLsb' 0 20)).setWidth 20⟩]

/-- 20_memory.md R57, 10_state.md R15: with the device stuck or not selected READ_BYTE still completes with status `OK`, and its byte is a free value
(numbered by the model, log 6). -/
def Obligations.ReadOfDeadDeviceCompletes : Prop :=
  ∀ (s : State) (arg : Arg), s.Ready → (s.ce = false ∨ s.dev.stuck = true) → s.TimingOK →
    ∃ t, exec (.readByte arg) s = .next t ∧ t.rdVal = Config.draw20 s.draws ∧
      t.responses = s.responses ++ [⟨.ok, ((Config.draw20 s.draws).extractLsb' 0 8).setWidth 20⟩]

/-- 43_byte_access.md R141: the response never depends on the old `out_val`, `rd_val` or `dev_alatch`, nor on where the bus was; the free values
are the same when their number is (log 6). -/
def Obligations.ReadIndependentOfHistory : Prop :=
  ∀ (s u : State) (arg : Arg), s.Ready → u.Ready → s.cfg = u.cfg → s.ce = u.ce → s.dev = u.dev → s.draws = u.draws →
    ∃ t v r, exec (.readByte arg) s = .next t ∧ exec (.readByte arg) u = .next v ∧
      t.responses = s.responses ++ [r] ∧ v.responses = u.responses ++ [r]

/-- 70_reset_and_hazards.md R219, 20_memory.md R46: with primitives, DELAYs between PREP_READ and SAMPLE make the data valid when they total three units,
and not before; until then the sample is a free value (log 6). -/
def Obligations.SampleValidAfterThreeUnits : Prop :=
  ∀ (s : State) (cs : List DelayClass), s.ReadyForPrimitive → s.doe = false → s.Selected → s.TimingOK → s.EnvOK →
    ∃ t, issueAll (encode .prepRead :: cs.map (fun c => encode (.delay c)) ++ [encode .sample]) s = .next t ∧
      (3 ≤ (cs.map delayUnits).sum → dataLane t.rdVal = s.dev.read s.devAlatch) ∧
      ((cs.map delayUnits).sum < 3 → t.rdVal = Config.draw20 s.draws)

/-- 20_memory.md R53: on `M_RAM` a READ_BYTE after a WRITE_BYTE sees the byte at the written address and the old byte at every other.
The write rests on 92_eei_decisions.md D18 (70_reset_and_hazards.md R226; log 28). -/
def Obligations.RamReadAfterWrite : Prop :=
  ∀ (s : State) (a b : Arg) (data : Byte), s.Ready → s.Selected → s.TimingOK → s.EnvOK → s.dev.kind = .ram →
    ∃ t, issueAll [encode (.writeByte a data), encode (.readByte b)] s = .next t ∧
      t.responses = s.responses ++
        [⟨.ok, 0#20⟩, ⟨.ok, (if deviceAddress b = deviceAddress a then data else s.dev.read (deviceAddress b)).setWidth 20⟩]

/-- 42_address_latch.md R132, 20_memory.md R41: the value driven is `ARG[19:0]`: the second event of LATCH_ADDR, the first of DRIVE and the fourth of the two
accesses, in every run; and operands equal in their low twenty bits have the same outcome, pin trace and end state but for `cur_arg` and the command word a
fault recorded. The clauses about WRITE_BYTE rest on 92_eei_decisions.md D18 (log 28). -/
def Obligations.AddressMasking : Prop :=
  (∀ (s t : State) (a : Arg) (data : Byte), t.fault = none →
    (s.issue (encode (.latchAddr a)) = .next t → t.trace[s.trace.length + 1]? = some (.drive (a.extractLsb' 0 20))) ∧
    (s.issue (encode (.drive a)) = .next t → t.trace[s.trace.length]? = some (.drive (a.extractLsb' 0 20))) ∧
    (s.issue (encode (.readByte a)) = .next t → t.trace[s.trace.length + 3]? = some (.drive (a.extractLsb' 0 20))) ∧
    (s.issue (encode (.writeByte a data)) = .next t → t.trace[s.trace.length + 3]? = some (.drive (a.extractLsb' 0 20)))) ∧
  ∀ (s : State) (a a' : Arg) (data : Byte), a.extractLsb' 0 20 = a'.extractLsb' 0 20 →
    (∀ t, s.issue (encode (.latchAddr a)) = .next t →
      ∃ t', s.issue (encode (.latchAddr a')) = .next t' ∧ SameButCommandWord t t') ∧
    (∀ t, s.issue (encode (.drive a)) = .next t →
      ∃ t', s.issue (encode (.drive a')) = .next t' ∧ SameButCommandWord t t') ∧
    (∀ t, s.issue (encode (.readByte a)) = .next t →
      ∃ t', s.issue (encode (.readByte a')) = .next t' ∧ SameButCommandWord t t') ∧
    (∀ t, s.issue (encode (.writeByte a data)) = .next t →
      ∃ t', s.issue (encode (.writeByte a' data)) = .next t' ∧ SameButCommandWord t t')

/-- 42_address_latch.md R131: after LATCH_ADDR the device's latch holds the address through every later pin event until the next `SetALE(Transparent)`. -/
def Obligations.LatchHoldsAddress : Prop :=
  ∀ (s : State) (arg : Arg), s.ReadyForPrimitive → s.bus = .addressDrive → s.TimingOK →
    ∃ t, exec (.latchAddr arg) s = .next t ∧ t.devAlatch = arg.extractLsb' 0 20 ∧
      ∀ (ms : List MicroStep) (u : State), (∀ m ∈ ms, m.action ≠ .setAle .transparent) → runSteps ms t = .next u →
        u.devAlatch = arg.extractLsb' 0 20

/-- 43_byte_access.md R146: the pin traces of the two accesses, event for event, from every boundary state.
What it says of PREP_WRITE or WRITE_BYTE rests on 92_eei_decisions.md D18 (log 28). -/
def Obligations.AccessTraces : Prop :=
  (∀ (s : State) (arg : Arg), s.Ready →
    ∃ t v, exec (.readByte arg) s = .next t ∧ t.rdVal = v ∧
      t.trace = s.trace ++ [.setDoe false, .setDir .output, .setAle .transparent, .drive (arg.extractLsb' 0 20), .wait 1,
        .setAle .latched, .setDir .input, .setDoe true, .wait 3, .sample v, .setDoe false, .setDir .input]) ∧
  ∀ (s : State) (arg : Arg) (data : Byte), s.Ready →
    ∃ t, exec (.writeByte arg data) s = .next t ∧
      t.trace = s.trace ++ [.setDoe false, .setDir .output, .setAle .transparent, .drive (arg.extractLsb' 0 20), .wait 1,
        .setAle .latched, .setDoe false, .setDir .output, .drive (data.setWidth 20), .setWe true, .wait 1, .setWe false,
        .setDir .input]

/-- 43_byte_access.md R147: each access is equal to its list of primitives, in pin trace and end state; the SAMPLE response carries the same sample; no
primitive moves `phase`. What it says of PREP_WRITE or WRITE_BYTE rests on 92_eei_decisions.md D18 (log 28). -/
def Obligations.AccessesAreLayered : Prop :=
  (∀ (s : State) (a : Arg), s.ReadyForPrimitive → s.busy = false → s.ustep = 0 →
    ∃ t u rs, s.issue (encode (.readByte a)) = .next t ∧
      issueAll [encode .prepAddr, encode (.latchAddr a), encode .prepRead, encode (.delay .long), encode .sample,
        encode .busIdle] s = .next u ∧
      { t with curOp := u.curOp, curData := u.curData, curArg := u.curArg, responses := u.responses } = u ∧
      u.responses = s.responses ++ rs ∧ rs[4]? = some ⟨.ok, t.rdVal⟩) ∧
  (∀ (s : State) (a : Arg) (b : Byte), s.ReadyForPrimitive → s.busy = false → s.ustep = 0 →
    ∃ t u, s.issue (encode (.writeByte a b)) = .next t ∧
      issueAll [encode .prepAddr, encode (.latchAddr a), encode (.prepWrite b)] s = .next u ∧
      { t with curOp := u.curOp, curData := u.curData, curArg := u.curArg, responses := u.responses } = u) ∧
  ∀ (i : Instr) (m : MicroStep), i.isPrimitive = true → m ∈ microSteps i → m.phase = none

/-! ### Orderings and invariants (10_state.md section 4, 70_reset_and_hazards.md section 3) -/

/-- 70_reset_and_hazards.md R216, R217: in every command, before the lines become outputs the device's output is disabled, and before the device's output is
enabled the lines become inputs. What it says of PREP_WRITE or WRITE_BYTE rests on 92_eei_decisions.md D18 (log 28). -/
def Obligations.DisableBeforeDrive : Prop :=
  ∀ (i : Instr) (before after : List MicroStep) (m : MicroStep), microSteps i = before ++ m :: after →
    (m.action = .setDir .output → ∃ x ys, before = x ++ ys ∧ (ys.head?.map (·.action) = some (.setDoe false)) ∧
      ∀ y ∈ ys, y.action ≠ .setDoe true) ∧
    (m.action = .setDoe true → ∃ x ys, before = x ++ ys ∧ (ys.head?.map (·.action) = some (.setDir .input)) ∧
      ∀ y ∈ ys, y.action ≠ .setDir .output)

/-- 10_state.md R14, R16, R17, R18: which commands write which line and register. What it says of PREP_WRITE or WRITE_BYTE rests on 92_eei_decisions.md D18 (log 28). -/
def Obligations.WhoWritesWhichLine : Prop :=
  ∀ (i : Instr) (m : MicroStep), m ∈ microSteps i →
    (∀ b, m.action = .setWe b → (∃ d, i = .prepWrite d) ∨ ∃ a d, i = .writeByte a d) ∧
    (∀ l, m.action = .setAle l → (∃ a, i = .latchAddr a) ∨ (∃ a, i = .readByte a) ∨ ∃ a d, i = .writeByte a d) ∧
    (∀ b, m.action = .setDoe b → i = .prepAddr ∨ i = .prepRead ∨ (∃ d, i = .prepWrite d) ∨ i = .busIdle ∨
      (∃ a, i = .readByte a) ∨ ∃ a d, i = .writeByte a d) ∧
    (∀ d, m.action = .setDir d → i = .prepAddr ∨ i = .prepRead ∨ (∃ d, i = .prepWrite d) ∨ i = .busIdle ∨
      (∃ a, i = .readByte a) ∨ ∃ a d, i = .writeByte a d) ∧
    (∀ v, m.action = .drive v → (∃ a, i = .drive a) ∨ (∃ a, i = .latchAddr a) ∨ (∃ d, i = .prepWrite d) ∨
      (∃ a, i = .readByte a) ∨ ∃ a d, i = .writeByte a d) ∧
    (m.action = .sample → i = .sample ∨ ∃ a, i = .readByte a)

/-- 43_byte_access.md R140, 41_bus_direction.md R110, R112, R114, R115, 42_address_latch.md R130: `phase` and `bus` after each micro-step.
What it says of PREP_WRITE or WRITE_BYTE rests on 92_eei_decisions.md D18 (log 28). -/
def Obligations.OwnerAfterEachMicroStep : Prop :=
  ∀ (s : State) (a : Arg) (d : Byte), s.pinsAtRest = true →
    let b0 := if s.bus = .dataRead then BusState.idle else s.bus
    ownerPath prepAddrSteps s = [(.idle, b0), (.idle, .addressDrive)] ∧
    ownerPath prepReadSteps s = [(.idle, if s.bus = .dataRead then .dataRead else .idle), (.idle, .dataRead)] ∧
    ownerPath (prepWriteSteps d) s = [(.idle, b0), (.idle, .dataWrite), (.idle, .dataWrite), (.idle, .dataWrite),
      (.idle, .dataWrite), (.idle, .dataWrite), (.idle, .idle)] ∧
    ownerPath busIdleSteps s = [(.idle, b0), (.idle, .idle)] ∧
    (s.bus = .addressDrive → ownerPath (latchAddrSteps a) s = [(.idle, .addressDrive), (.idle, .addressDrive),
      (.idle, .addressDrive), (.idle, .addressLatched)]) ∧
    ownerPath (readByteSteps a) s = [(.addressPhase, b0), (.addressPhase, .addressDrive), (.addressPhase, .addressDrive),
      (.addressPhase, .addressDrive), (.addressPhase, .addressDrive), (.latchPhase, .addressLatched), (.dataPhase, .idle),
      (.dataPhase, .dataRead), (.dataPhase, .dataRead), (.dataPhase, .dataRead), (.dataPhase, .idle), (.idle, .idle)] ∧
    ownerPath (writeByteSteps a d) s = [(.addressPhase, b0), (.addressPhase, .addressDrive), (.addressPhase, .addressDrive),
      (.addressPhase, .addressDrive), (.addressPhase, .addressDrive), (.latchPhase, .addressLatched),
      (.dataPhase, .addressLatched), (.dataPhase, .dataWrite), (.dataPhase, .dataWrite), (.dataPhase, .dataWrite),
      (.dataPhase, .dataWrite), (.dataPhase, .dataWrite), (.idle, .idle)]

/-- 10_state.md R12, R24, R25, R26: from every boundary state, under every run of the clock and of the input ports, resets included, the machine never stops,
and at every cycle the table of R12 holds, the two sides never drive together, and the strobes are active only where R25 and R26 allow.
What it says of PREP_WRITE or WRITE_BYTE rests on 92_eei_decisions.md D18 (log 28). -/
def Obligations.PinTableAtEveryCycle : Prop :=
  ∀ (s : State) (ps : List PortsIn), s.atBoundary = true →
    ∃ t, runClock ps s = .next t ∧ t.busTable = true ∧ ¬(t.dir = .output ∧ t.doe = true) ∧
      (t.we = true → t.busy = true ∧ t.dir = .output ∧ t.doe = false ∧ t.bus = .dataWrite) ∧
      (t.ale = .transparent → t.busy = true ∧ t.dir = .output ∧ t.doe = false ∧ t.bus = .addressDrive) ∧
      (t.busy = false → t.atBoundary = true)

/-- 10_state.md R27, R12, R15: from every boundary state a step completes, in a boundary state, with the device's memory in canonical form and Chip-Enable
at its constant level. What it says of PREP_WRITE or WRITE_BYTE rests on 92_eei_decisions.md D18 (log 28). -/
def Obligations.StepKeepsBoundary : Prop :=
  ∀ s : State, s.inv = true → ∃ t, step s = .next t ∧ t.inv = true

/-- 70_reset_and_hazards.md R230: the reset state is a boundary state, for every configuration and every device in the socket. -/
def Obligations.ResetIsBoundary : Prop :=
  State.reset.inv = true ∧ ∀ (c : Config) (d : Device), Memory.wf d.known = true → (State.resetWith c d).inv = true

/-- 42_address_latch.md R134: while the host asserts no reset, every `SetALE` event of the pin trace stands in exactly one address-latch sequence.
What it says of PREP_WRITE or WRITE_BYTE rests on 92_eei_decisions.md D18 (log 28). -/
def Obligations.LatchSequencesOnly : Prop :=
  ∀ s t : State, s.inv = true → (∀ m ∈ s.moves, m.keepsOutOfReset = true) → latchSequenced s.trace = true →
    step s = .next t → latchSequenced t.trace = true

/-! ### Reset (10_state.md R31, 70_reset_and_hazards.md) -/

/-- 10_state.md R31: the reset values of the block's record, for every configuration and every device; nothing runs until the host presents a command.
The first clause is the model's choice: the parameters (log 5) and the device in the socket (log 4) of `State.reset`. -/
def Obligations.ResetValues : Prop :=
  State.reset = State.resetWith Config.reference Device.unknown ∧
  ∀ (c : Config) (d : Device),
    let s := State.resetWith c d
    s.bus = .idle ∧ s.phase = .idle ∧ s.doe = false ∧ s.ale = .latched ∧ s.we = false ∧ s.ce = c.ceStatic ∧ s.dir = .input ∧
    s.outVal = 0x00000#20 ∧ s.rdVal = 0x00000#20 ∧ s.curOp = 0#4 ∧ s.curData = 0#8 ∧ s.curArg = 0#32 ∧ s.ustep = 0 ∧
    s.dlyCnt = 0 ∧ s.fault = none ∧ s.faultCw = 0#44 ∧ s.busy = false ∧ s.dev = d ∧ step s = .next s

/-- 70_reset_and_hazards.md R210: reset from any state, at any cycle; what the ports show in reset and after it. -/
def Obligations.ResetFromAnyState : Prop :=
  ∀ (s : State) (p q : PortsIn), p.rstN = false → q.rstN = true →
    ∃ t, tick p s = .next t ∧
      (t.bus = .idle ∧ t.phase = .idle ∧ t.doe = false ∧ t.ale = .latched ∧ t.we = false ∧ t.ce = s.cfg.ceStatic ∧
        t.dir = .input ∧ t.outVal = 0#20 ∧ t.rdVal = 0#20 ∧ t.curOp = 0#4 ∧ t.curData = 0#8 ∧ t.curArg = 0#32 ∧
        t.ustep = 0 ∧ t.dlyCnt = 0 ∧ t.fault = none ∧ t.faultCw = 0#44 ∧ t.busy = false) ∧
      t.cfg = s.cfg ∧ t.responses = s.responses ∧ t.ports.cmdReady = false ∧ t.ports.rsp = none ∧
      tick q t = .next { t with inReset := false } ∧
      ({ t with inReset := false } : State).ports.cmdReady = true ∧ ({ t with inReset := false } : State).atBoundary = true

/-- 70_reset_and_hazards.md R211, R212: a command cut by reset after `n` micro-steps gives no response and ends its trace with the `Reset` mark; the device's latch is a free
value; its contents stay unless the write pulse was cut, and then they are a free value (log 6, 13, 14, 17).
What it says of PREP_WRITE or WRITE_BYTE rests on 92_eei_decisions.md D18 (log 28). -/
def Obligations.ResetAbandonsCommand : Prop :=
  ∀ (s : State) (w : CmdWord) (n : Nat), s.atBoundary = true →
    ∃ u t, runSteps ((s.admitWord w).pending.take n) (s.admitWord w) = .next u ∧ s.issueCut w n = .next t ∧
      t.responses = s.responses ∧ t.trace = u.trace ++ [.reset] ∧ PinsIdle t ∧ t.fault = none ∧ t.busy = false ∧
      t.devAlatch = Config.draw20 u.draws ∧
      (u.we = false → t.dev = u.dev) ∧ (u.we = true → t.dev = u.dev.spoil (u.draws + 1))

/-! ### The clock machine (40_timing_primitives.md R104, 30_encoding.md R78, 70_reset_and_hazards.md R228) -/

/-- 40_timing_primitives.md R104: a wait of `k` units occupies `k * N_SHORT` cycles; `dly_cnt` counts them down; nothing else moves until the last
(that it is counted down within its first cycle is the model's reading, log 15). -/
def Obligations.WaitCountsDown : Prop :=
  ∀ (s : State) (m : MicroStep) (ms : List MicroStep) (k : Nat) (ps : List PortsIn),
    s.busy = true → s.inReset = false → s.contention = false → s.dlyCnt = 0 → s.pending = m :: ms →
    m.action = .wait k → 1 ≤ k * s.cfg.nShort → (∀ p ∈ ps, p.rstN = true) →
    (1 ≤ ps.length → ps.length < k * s.cfg.nShort →
      runClock ps s = .next { s with dlyCnt := k * s.cfg.nShort - ps.length }) ∧
    (ps.length = k * s.cfg.nShort → runClock ps s = .next (s.microStep m) ∧ (s.microStep m).dlyCnt = 0 ∧
      (s.microStep m).ustep = s.ustep + 1 ∧ (s.microStep m).trace = s.trace ++ [.wait k])

/-- The clock machine refines into the step: from a boundary, a word presented at an edge and then any inputs but reset for the cycles of its micro-steps and the one
of its response lead to the state the command's meaning gives (30_encoding.md R78, 41_bus_direction.md R118, 40_timing_primitives.md R104).
What it says of PREP_WRITE or WRITE_BYTE rests on 92_eei_decisions.md D18 (log 28). -/
def Obligations.ClockRunsCommand : Prop :=
  ∀ (s : State) (w : CmdWord) (ps : List PortsIn), s.atBoundary = true → s.inReset = false → s.cfg.wellFormed = true →
    (∀ p ∈ ps, p.rstN = true) → ps.length = listCycles s.cfg.nShort (s.admitWord w).pending + 1 →
    runClock (⟨true, true, w⟩ :: ps) s = s.issue w

/-- 70_reset_and_hazards.md R228: events, waits and cycles of each command in the reference rendering, with `N = N_SHORT`; a faulting or refused command takes none.
What it says of PREP_WRITE or WRITE_BYTE rests on 92_eei_decisions.md D18 (log 28). -/
def Obligations.DurationTable : Prop :=
  (∀ (N : Nat) (a : Arg) (d : Byte),
    listCycles N (microSteps .nop) = 0 ∧
    listCycles N (microSteps (.readByte a)) = 10 + 4 * N ∧
    listCycles N (microSteps (.writeByte a d)) = 11 + 2 * N ∧
    listCycles N (microSteps .prepAddr) = 2 ∧
    listCycles N (microSteps (.drive a)) = 1 ∧
    listCycles N (microSteps .prepRead) = 2 ∧
    listCycles N (microSteps .sample) = 1 ∧
    listCycles N (microSteps (.prepWrite d)) = 6 + N ∧
    listCycles N (microSteps (.latchAddr a)) = 3 + N ∧
    listCycles N (microSteps (.delay .short)) = N ∧
    listCycles N (microSteps (.delay .long)) = 3 * N ∧
    listCycles N (microSteps .busIdle) = 2) ∧
  ∀ (s : State) (w : CmdWord), (s.admitWord w).fault ≠ none → listCycles s.cfg.nShort (s.admitWord w).pending = 0

/-- 30_encoding.md R78: acceptance happens only at an edge with `cmd_valid` and `cmd_ready`; while `busy` is true the host's ports but reset are not looked at. -/
def Obligations.BusyIgnoresHost : Prop :=
  ∀ (s : State) (p q : PortsIn), p.rstN = true → q.rstN = true →
    (s.busy = true → s.inReset = false → tick p s = tick q s) ∧
    (s.ports.cmdReady = true → p.cmdValid = false → tick p s = .next s) ∧
    (s.ports.cmdReady = true → p.cmdValid = true → ∃ t, tick p s = .next t ∧ t.busy = true ∧ t.ustep = 1 ∧
      t.curOp = opField p.cmdWord ∧ t.curData = dataField p.cmdWord ∧ t.curArg = argField p.cmdWord ∧
      t.trace = s.trace ∧ t.responses = s.responses ∧ t.ports.cmdReady = false)

/-- 30_encoding.md R82, R77, R78, 10_state.md R14, R30: the output ports of every state: the codes, the four control lines at their polarity, and the response.
`rsp_valid` holds exactly in the cycle of a command in progress whose micro-steps are over; the port then shows the response the next edge gives the host. That
the response ports show no value in any other cycle is the model's choice (log 26). -/
def Obligations.PortsReport : Prop :=
  (∀ s : State,
    s.ports.busState = (match s.bus with
      | .idle => 0#3 | .addressDrive => 1#3 | .addressLatched => 2#3 | .dataRead => 3#3 | .dataWrite => 4#3) ∧
    s.ports.phaseO = (match s.phase with
      | .idle => 0#2 | .addressPhase => 1#2 | .latchPhase => 2#2 | .dataPhase => 3#2) ∧
    s.ports.faultCode = (match s.fault with
      | none => 0#2 | some .busTimingViolation => 1#2 | some .illegalCommand => 2#2) ∧
    (∀ arg : Arg, delayClassOf arg = if arg.getLsbD 0 then .long else .short) ∧
    s.ports.doeO = (s.doe == s.cfg.polDoe) ∧
    s.ports.aleO = (decide (s.ale = .transparent) == s.cfg.polAle) ∧
    s.ports.weO = (s.we == s.cfg.polWe) ∧
    s.ports.ceO = (s.ce == s.cfg.polCe) ∧
    (s.ports.shOe = true ↔ s.dir = .output) ∧ s.ports.shOut = s.outVal ∧ s.ports.busy = s.busy ∧
    s.ports.cmdReady = (!s.busy && !s.inReset)) ∧
  ∀ s : State,
    (s.responding = true ↔ s.busy = true ∧ s.inReset = false ∧ s.pending = []) ∧
    (s.responding = true →
      s.ports.rsp = some
        (match s.response.status with
          | .ok => 0#2 | .busTimingViolation => 1#2 | .illegalCommand => 2#2, s.response.value) ∧
      ∀ p : PortsIn, p.rstN = true → ∃ t, tick p s = .next t ∧ Answered s t s.response.status s.response.value) ∧
    (s.responding = false → s.ports.rsp = none)

/-! ### The host's clients (44_host_clients.md) -/

/-- 44_host_clients.md R163: `verify` (its three outcomes: log 18) of a matching sequence consumes exactly its reads; of a sequence that first diverges at `k` it stops there; the pin trace is that of its
READ_BYTEs, at ascending addresses. -/
def Obligations.VerifyStopsAtFirstDifference : Prop :=
  ∀ (s : State) (expected : List Byte) (start : Nat), s.atBoundary = true → s.NoFault → s.Selected → s.TimingOK → s.EnvOK →
    ((∀ i (h : i < expected.length), s.dev.read (deviceAddress (BitVec.ofNat 32 (start + i))) = expected[i]) →
      ∃ (t : State) (vs : Nat → Lines), verify expected start s = (.result .success, t) ∧
        t.responses.length = s.responses.length + expected.length ∧
        t.trace = s.trace ++ (List.range expected.length).flatMap fun i => readTrace (BitVec.ofNat 32 (start + i)) (vs i)) ∧
    (∀ k (hk : k < expected.length),
      (∀ i (h : i < k), s.dev.read (deviceAddress (BitVec.ofNat 32 (start + i))) = expected[i]) →
      s.dev.read (deviceAddress (BitVec.ofNat 32 (start + k))) ≠ expected[k] →
      ∃ (t : State) (vs : Nat → Lines), verify expected start s =
          (.result (.mismatchAt k expected[k] (s.dev.read (deviceAddress (BitVec.ofNat 32 (start + k))))), t) ∧
        t.responses.length = s.responses.length + (k + 1) ∧
        t.trace = s.trace ++ (List.range (k + 1)).flatMap fun i => readTrace (BitVec.ofNat 32 (start + i)) (vs i))

/-- 44_host_clients.md R165: chunk boundaries have no effect on the result of `verify`. -/
def Obligations.ChunkingHasNoEffect : Prop :=
  ∀ (s : State) (source : List Byte) (start : Nat), 1 ≤ s.cfg.chunk →
    verifyChunked source start s = verify source start s

/-- 44_host_clients.md R166, R167, R170: a row of sixteen bytes, digit by digit; no row of any other count (log 18). -/
def Obligations.FormatRowDigits : Prop :=
  (∀ (base : Nat) (bytes : List Byte), bytes.length = 16 →
    ∃ r, formatRow base bytes = some r ∧
      r.addr = [5, 4, 3, 2, 1, 0].map (fun p => hexDigit (base / 16 ^ p % 16)) ∧
      r.pairs.length = 16 ∧
      (∀ i (h : i < bytes.length), r.pairs[i]? = some [hexDigit (bytes[i].toNat / 16), hexDigit (bytes[i].toNat % 16)]) ∧
      r.glyphs = bytes) ∧
  (∀ (base : Nat) (bytes : List Byte), bytes.length ≠ 16 → formatRow base bytes = none) ∧
  (List.range 16).map hexDigit = ['0', '1', '2', '3', '4', '5', '6', '7', '8', '9', 'A', 'B', 'C', 'D', 'E', 'F']
end

