-- ==== Sys2Proof/Laws/State.lean ====
section
/-! SUPPORT. One lemma per field per update of the state, each true by rfl. -/

namespace Sys2Proof.Machine

@[simp] theorem State.emit_cfg (e : PinEvent) (s : State) : (s.emit e).cfg = s.cfg := rfl
@[simp] theorem State.emit_bus (e : PinEvent) (s : State) : (s.emit e).bus = s.bus := rfl
@[simp] theorem State.emit_phase (e : PinEvent) (s : State) : (s.emit e).phase = s.phase := rfl
@[simp] theorem State.emit_doe (e : PinEvent) (s : State) : (s.emit e).doe = s.doe := rfl
@[simp] theorem State.emit_ale (e : PinEvent) (s : State) : (s.emit e).ale = s.ale := rfl
@[simp] theorem State.emit_we (e : PinEvent) (s : State) : (s.emit e).we = s.we := rfl
@[simp] theorem State.emit_ce (e : PinEvent) (s : State) : (s.emit e).ce = s.ce := rfl
@[simp] theorem State.emit_dir (e : PinEvent) (s : State) : (s.emit e).dir = s.dir := rfl
@[simp] theorem State.emit_outVal (e : PinEvent) (s : State) : (s.emit e).outVal = s.outVal := rfl
@[simp] theorem State.emit_rdVal (e : PinEvent) (s : State) : (s.emit e).rdVal = s.rdVal := rfl
@[simp] theorem State.emit_curOp (e : PinEvent) (s : State) : (s.emit e).curOp = s.curOp := rfl
@[simp] theorem State.emit_curData (e : PinEvent) (s : State) : (s.emit e).curData = s.curData := rfl
@[simp] theorem State.emit_curArg (e : PinEvent) (s : State) : (s.emit e).curArg = s.curArg := rfl
@[simp] theorem State.emit_ustep (e : PinEvent) (s : State) : (s.emit e).ustep = s.ustep := rfl
@[simp] theorem State.emit_dlyCnt (e : PinEvent) (s : State) : (s.emit e).dlyCnt = s.dlyCnt := rfl
@[simp] theorem State.emit_fault (e : PinEvent) (s : State) : (s.emit e).fault = s.fault := rfl
@[simp] theorem State.emit_faultCw (e : PinEvent) (s : State) : (s.emit e).faultCw = s.faultCw := rfl
@[simp] theorem State.emit_busy (e : PinEvent) (s : State) : (s.emit e).busy = s.busy := rfl
@[simp] theorem State.emit_inReset (e : PinEvent) (s : State) : (s.emit e).inReset = s.inReset := rfl
@[simp] theorem State.emit_devAlatch (e : PinEvent) (s : State) : (s.emit e).devAlatch = s.devAlatch := rfl
@[simp] theorem State.emit_dev (e : PinEvent) (s : State) : (s.emit e).dev = s.dev := rfl
@[simp] theorem State.emit_sinceLines (e : PinEvent) (s : State) : (s.emit e).sinceLines = s.sinceLines := rfl
@[simp] theorem State.emit_sinceValid (e : PinEvent) (s : State) : (s.emit e).sinceValid = s.sinceValid := rfl
@[simp] theorem State.emit_pulse (e : PinEvent) (s : State) : (s.emit e).pulse = s.pulse := rfl
@[simp] theorem State.emit_draws (e : PinEvent) (s : State) : (s.emit e).draws = s.draws := rfl
@[simp] theorem State.emit_trace (e : PinEvent) (s : State) : (s.emit e).trace = s.trace ++ [e] := rfl
@[simp] theorem State.emit_responses (e : PinEvent) (s : State) : (s.emit e).responses = s.responses := rfl
@[simp] theorem State.emit_moves (e : PinEvent) (s : State) : (s.emit e).moves = s.moves := rfl

@[simp] theorem State.accept_cfg (w : CmdWord) (s : State) : (s.accept w).cfg = s.cfg := rfl
@[simp] theorem State.accept_bus (w : CmdWord) (s : State) : (s.accept w).bus = s.bus := rfl
@[simp] theorem State.accept_phase (w : CmdWord) (s : State) : (s.accept w).phase = s.phase := rfl
@[simp] theorem State.accept_doe (w : CmdWord) (s : State) : (s.accept w).doe = s.doe := rfl
@[simp] theorem State.accept_ale (w : CmdWord) (s : State) : (s.accept w).ale = s.ale := rfl
@[simp] theorem State.accept_we (w : CmdWord) (s : State) : (s.accept w).we = s.we := rfl
@[simp] theorem State.accept_ce (w : CmdWord) (s : State) : (s.accept w).ce = s.ce := rfl
@[simp] theorem State.accept_dir (w : CmdWord) (s : State) : (s.accept w).dir = s.dir := rfl
@[simp] theorem State.accept_outVal (w : CmdWord) (s : State) : (s.accept w).outVal = s.outVal := rfl
@[simp] theorem State.accept_rdVal (w : CmdWord) (s : State) : (s.accept w).rdVal = s.rdVal := rfl
@[simp] theorem State.accept_curOp (w : CmdWord) (s : State) : (s.accept w).curOp = opField w := rfl
@[simp] theorem State.accept_curData (w : CmdWord) (s : State) : (s.accept w).curData = dataField w := rfl
@[simp] theorem State.accept_curArg (w : CmdWord) (s : State) : (s.accept w).curArg = argField w := rfl
@[simp] theorem State.accept_ustep (w : CmdWord) (s : State) : (s.accept w).ustep = 1 := rfl
@[simp] theorem State.accept_dlyCnt (w : CmdWord) (s : State) : (s.accept w).dlyCnt = s.dlyCnt := rfl
@[simp] theorem State.accept_fault (w : CmdWord) (s : State) : (s.accept w).fault = s.fault := rfl
@[simp] theorem State.accept_faultCw (w : CmdWord) (s : State) : (s.accept w).faultCw = s.faultCw := rfl
@[simp] theorem State.accept_busy (w : CmdWord) (s : State) : (s.accept w).busy = true := rfl
@[simp] theorem State.accept_inReset (w : CmdWord) (s : State) : (s.accept w).inReset = s.inReset := rfl
@[simp] theorem State.accept_devAlatch (w : CmdWord) (s : State) : (s.accept w).devAlatch = s.devAlatch := rfl
@[simp] theorem State.accept_dev (w : CmdWord) (s : State) : (s.accept w).dev = s.dev := rfl
@[simp] theorem State.accept_sinceLines (w : CmdWord) (s : State) : (s.accept w).sinceLines = s.sinceLines := rfl
@[simp] theorem State.accept_sinceValid (w : CmdWord) (s : State) : (s.accept w).sinceValid = s.sinceValid := rfl
@[simp] theorem State.accept_pulse (w : CmdWord) (s : State) : (s.accept w).pulse = s.pulse := rfl
@[simp] theorem State.accept_draws (w : CmdWord) (s : State) : (s.accept w).draws = s.draws := rfl
@[simp] theorem State.accept_trace (w : CmdWord) (s : State) : (s.accept w).trace = s.trace := rfl
@[simp] theorem State.accept_responses (w : CmdWord) (s : State) : (s.accept w).responses = s.responses := rfl
@[simp] theorem State.accept_moves (w : CmdWord) (s : State) : (s.accept w).moves = s.moves := rfl

@[simp] theorem State.answer_cfg (st : Status) (v : Lines) (s : State) : (s.answer st v).cfg = s.cfg := rfl
@[simp] theorem State.answer_bus (st : Status) (v : Lines) (s : State) : (s.answer st v).bus = s.bus := rfl
@[simp] theorem State.answer_phase (st : Status) (v : Lines) (s : State) : (s.answer st v).phase = s.phase := rfl
@[simp] theorem State.answer_doe (st : Status) (v : Lines) (s : State) : (s.answer st v).doe = s.doe := rfl
@[simp] theorem State.answer_ale (st : Status) (v : Lines) (s : State) : (s.answer st v).ale = s.ale := rfl
@[simp] theorem State.answer_we (st : Status) (v : Lines) (s : State) : (s.answer st v).we = s.we := rfl
@[simp] theorem State.answer_ce (st : Status) (v : Lines) (s : State) : (s.answer st v).ce = s.ce := rfl
@[simp] theorem State.answer_dir (st : Status) (v : Lines) (s : State) : (s.answer st v).dir = s.dir := rfl
@[simp] theorem State.answer_outVal (st : Status) (v : Lines) (s : State) : (s.answer st v).outVal = s.outVal := rfl
@[simp] theorem State.answer_rdVal (st : Status) (v : Lines) (s : State) : (s.answer st v).rdVal = s.rdVal := rfl
@[simp] theorem State.answer_curOp (st : Status) (v : Lines) (s : State) : (s.answer st v).curOp = s.curOp := rfl
@[simp] theorem State.answer_curData (st : Status) (v : Lines) (s : State) : (s.answer st v).curData = s.curData := rfl
@[simp] theorem State.answer_curArg (st : Status) (v : Lines) (s : State) : (s.answer st v).curArg = s.curArg := rfl
@[simp] theorem State.answer_ustep (st : Status) (v : Lines) (s : State) : (s.answer st v).ustep = 0 := rfl
@[simp] theorem State.answer_dlyCnt (st : Status) (v : Lines) (s : State) : (s.answer st v).dlyCnt = s.dlyCnt := rfl
@[simp] theorem State.answer_fault (st : Status) (v : Lines) (s : State) : (s.answer st v).fault = s.fault := rfl
@[simp] theorem State.answer_faultCw (st : Status) (v : Lines) (s : State) : (s.answer st v).faultCw = s.faultCw := rfl
@[simp] theorem State.answer_busy (st : Status) (v : Lines) (s : State) : (s.answer st v).busy = false := rfl
@[simp] theorem State.answer_inReset (st : Status) (v : Lines) (s : State) : (s.answer st v).inReset = s.inReset := rfl
@[simp] theorem State.answer_devAlatch (st : Status) (v : Lines) (s : State) : (s.answer st v).devAlatch = s.devAlatch := rfl
@[simp] theorem State.answer_dev (st : Status) (v : Lines) (s : State) : (s.answer st v).dev = s.dev := rfl
@[simp] theorem State.answer_sinceLines (st : Status) (v : Lines) (s : State) : (s.answer st v).sinceLines = s.sinceLines := rfl
@[simp] theorem State.answer_sinceValid (st : Status) (v : Lines) (s : State) : (s.answer st v).sinceValid = s.sinceValid := rfl
@[simp] theorem State.answer_pulse (st : Status) (v : Lines) (s : State) : (s.answer st v).pulse = s.pulse := rfl
@[simp] theorem State.answer_draws (st : Status) (v : Lines) (s : State) : (s.answer st v).draws = s.draws := rfl
@[simp] theorem State.answer_trace (st : Status) (v : Lines) (s : State) : (s.answer st v).trace = s.trace := rfl
@[simp] theorem State.answer_responses (st : Status) (v : Lines) (s : State) : (s.answer st v).responses = s.responses ++ [⟨st, v⟩] := rfl
@[simp] theorem State.answer_moves (st : Status) (v : Lines) (s : State) : (s.answer st v).moves = s.moves := rfl

@[simp] theorem State.popMove_cfg (r : List HostMove) (s : State) : (s.popMove r).cfg = s.cfg := rfl
@[simp] theorem State.popMove_bus (r : List HostMove) (s : State) : (s.popMove r).bus = s.bus := rfl
@[simp] theorem State.popMove_phase (r : List HostMove) (s : State) : (s.popMove r).phase = s.phase := rfl
@[simp] theorem State.popMove_doe (r : List HostMove) (s : State) : (s.popMove r).doe = s.doe := rfl
@[simp] theorem State.popMove_ale (r : List HostMove) (s : State) : (s.popMove r).ale = s.ale := rfl
@[simp] theorem State.popMove_we (r : List HostMove) (s : State) : (s.popMove r).we = s.we := rfl
@[simp] theorem State.popMove_ce (r : List HostMove) (s : State) : (s.popMove r).ce = s.ce := rfl
@[simp] theorem State.popMove_dir (r : List HostMove) (s : State) : (s.popMove r).dir = s.dir := rfl
@[simp] theorem State.popMove_outVal (r : List HostMove) (s : State) : (s.popMove r).outVal = s.outVal := rfl
@[simp] theorem State.popMove_rdVal (r : List HostMove) (s : State) : (s.popMove r).rdVal = s.rdVal := rfl
@[simp] theorem State.popMove_curOp (r : List HostMove) (s : State) : (s.popMove r).curOp = s.curOp := rfl
@[simp] theorem State.popMove_curData (r : List HostMove) (s : State) : (s.popMove r).curData = s.curData := rfl
@[simp] theorem State.popMove_curArg (r : List HostMove) (s : State) : (s.popMove r).curArg = s.curArg := rfl
@[simp] theorem State.popMove_ustep (r : List HostMove) (s : State) : (s.popMove r).ustep = s.ustep := rfl
@[simp] theorem State.popMove_dlyCnt (r : List HostMove) (s : State) : (s.popMove r).dlyCnt = s.dlyCnt := rfl
@[simp] theorem State.popMove_fault (r : List HostMove) (s : State) : (s.popMove r).fault = s.fault := rfl
@[simp] theorem State.popMove_faultCw (r : List HostMove) (s : State) : (s.popMove r).faultCw = s.faultCw := rfl
@[simp] theorem State.popMove_busy (r : List HostMove) (s : State) : (s.popMove r).busy = s.busy := rfl
@[simp] theorem State.popMove_inReset (r : List HostMove) (s : State) : (s.popMove r).inReset = s.inReset := rfl
@[simp] theorem State.popMove_devAlatch (r : List HostMove) (s : State) : (s.popMove r).devAlatch = s.devAlatch := rfl
@[simp] theorem State.popMove_dev (r : List HostMove) (s : State) : (s.popMove r).dev = s.dev := rfl
@[simp] theorem State.popMove_sinceLines (r : List HostMove) (s : State) : (s.popMove r).sinceLines = s.sinceLines := rfl
@[simp] theorem State.popMove_sinceValid (r : List HostMove) (s : State) : (s.popMove r).sinceValid = s.sinceValid := rfl
@[simp] theorem State.popMove_pulse (r : List HostMove) (s : State) : (s.popMove r).pulse = s.pulse := rfl
@[simp] theorem State.popMove_draws (r : List HostMove) (s : State) : (s.popMove r).draws = s.draws := rfl
@[simp] theorem State.popMove_trace (r : List HostMove) (s : State) : (s.popMove r).trace = s.trace := rfl
@[simp] theorem State.popMove_responses (r : List HostMove) (s : State) : (s.popMove r).responses = s.responses := rfl
@[simp] theorem State.popMove_moves (r : List HostMove) (s : State) : (s.popMove r).moves = r := rfl

@[simp] theorem State.leaveReset_cfg (s : State) : (s.leaveReset).cfg = s.cfg := rfl
@[simp] theorem State.leaveReset_bus (s : State) : (s.leaveReset).bus = s.bus := rfl
@[simp] theorem State.leaveReset_phase (s : State) : (s.leaveReset).phase = s.phase := rfl
@[simp] theorem State.leaveReset_doe (s : State) : (s.leaveReset).doe = s.doe := rfl
@[simp] theorem State.leaveReset_ale (s : State) : (s.leaveReset).ale = s.ale := rfl
@[simp] theorem State.leaveReset_we (s : State) : (s.leaveReset).we = s.we := rfl
@[simp] theorem State.leaveReset_ce (s : State) : (s.leaveReset).ce = s.ce := rfl
@[simp] theorem State.leaveReset_dir (s : State) : (s.leaveReset).dir = s.dir := rfl
@[simp] theorem State.leaveReset_outVal (s : State) : (s.leaveReset).outVal = s.outVal := rfl
@[simp] theorem State.leaveReset_rdVal (s : State) : (s.leaveReset).rdVal = s.rdVal := rfl
@[simp] theorem State.leaveReset_curOp (s : State) : (s.leaveReset).curOp = s.curOp := rfl
@[simp] theorem State.leaveReset_curData (s : State) : (s.leaveReset).curData = s.curData := rfl
@[simp] theorem State.leaveReset_curArg (s : State) : (s.leaveReset).curArg = s.curArg := rfl
@[simp] theorem State.leaveReset_ustep (s : State) : (s.leaveReset).ustep = s.ustep := rfl
@[simp] theorem State.leaveReset_dlyCnt (s : State) : (s.leaveReset).dlyCnt = s.dlyCnt := rfl
@[simp] theorem State.leaveReset_fault (s : State) : (s.leaveReset).fault = s.fault := rfl
@[simp] theorem State.leaveReset_faultCw (s : State) : (s.leaveReset).faultCw = s.faultCw := rfl
@[simp] theorem State.leaveReset_busy (s : State) : (s.leaveReset).busy = s.busy := rfl
@[simp] theorem State.leaveReset_inReset (s : State) : (s.leaveReset).inReset = false := rfl
@[simp] theorem State.leaveReset_devAlatch (s : State) : (s.leaveReset).devAlatch = s.devAlatch := rfl
@[simp] theorem State.leaveReset_dev (s : State) : (s.leaveReset).dev = s.dev := rfl
@[simp] theorem State.leaveReset_sinceLines (s : State) : (s.leaveReset).sinceLines = s.sinceLines := rfl
@[simp] theorem State.leaveReset_sinceValid (s : State) : (s.leaveReset).sinceValid = s.sinceValid := rfl
@[simp] theorem State.leaveReset_pulse (s : State) : (s.leaveReset).pulse = s.pulse := rfl
@[simp] theorem State.leaveReset_draws (s : State) : (s.leaveReset).draws = s.draws := rfl
@[simp] theorem State.leaveReset_trace (s : State) : (s.leaveReset).trace = s.trace := rfl
@[simp] theorem State.leaveReset_responses (s : State) : (s.leaveReset).responses = s.responses := rfl
@[simp] theorem State.leaveReset_moves (s : State) : (s.leaveReset).moves = s.moves := rfl

@[simp] theorem State.wait_cfg (k : Nat) (s : State) : (s.wait k).cfg = s.cfg := rfl
@[simp] theorem State.wait_bus (k : Nat) (s : State) : (s.wait k).bus = s.bus := rfl
@[simp] theorem State.wait_phase (k : Nat) (s : State) : (s.wait k).phase = s.phase := rfl
@[simp] theorem State.wait_doe (k : Nat) (s : State) : (s.wait k).doe = s.doe := rfl
@[simp] theorem State.wait_ale (k : Nat) (s : State) : (s.wait k).ale = s.ale := rfl
@[simp] theorem State.wait_we (k : Nat) (s : State) : (s.wait k).we = s.we := rfl
@[simp] theorem State.wait_ce (k : Nat) (s : State) : (s.wait k).ce = s.ce := rfl
@[simp] theorem State.wait_dir (k : Nat) (s : State) : (s.wait k).dir = s.dir := rfl
@[simp] theorem State.wait_outVal (k : Nat) (s : State) : (s.wait k).outVal = s.outVal := rfl
@[simp] theorem State.wait_rdVal (k : Nat) (s : State) : (s.wait k).rdVal = s.rdVal := rfl
@[simp] theorem State.wait_curOp (k : Nat) (s : State) : (s.wait k).curOp = s.curOp := rfl
@[simp] theorem State.wait_curData (k : Nat) (s : State) : (s.wait k).curData = s.curData := rfl
@[simp] theorem State.wait_curArg (k : Nat) (s : State) : (s.wait k).curArg = s.curArg := rfl
@[simp] theorem State.wait_ustep (k : Nat) (s : State) : (s.wait k).ustep = s.ustep := rfl
@[simp] theorem State.wait_dlyCnt (k : Nat) (s : State) : (s.wait k).dlyCnt = 0 := rfl
@[simp] theorem State.wait_fault (k : Nat) (s : State) : (s.wait k).fault = s.fault := rfl
@[simp] theorem State.wait_faultCw (k : Nat) (s : State) : (s.wait k).faultCw = s.faultCw := rfl
@[simp] theorem State.wait_busy (k : Nat) (s : State) : (s.wait k).busy = s.busy := rfl
@[simp] theorem State.wait_inReset (k : Nat) (s : State) : (s.wait k).inReset = s.inReset := rfl
@[simp] theorem State.wait_devAlatch (k : Nat) (s : State) : (s.wait k).devAlatch = s.devAlatch := rfl
@[simp] theorem State.wait_dev (k : Nat) (s : State) : (s.wait k).dev = s.dev := rfl
@[simp] theorem State.wait_sinceLines (k : Nat) (s : State) : (s.wait k).sinceLines = s.sinceLines + k := rfl
@[simp] theorem State.wait_sinceValid (k : Nat) (s : State) : (s.wait k).sinceValid = s.sinceValid + k := rfl
@[simp] theorem State.wait_pulse (k : Nat) (s : State) : (s.wait k).pulse = s.pulse.map (· + k) := rfl
@[simp] theorem State.wait_draws (k : Nat) (s : State) : (s.wait k).draws = s.draws := rfl
@[simp] theorem State.wait_trace (k : Nat) (s : State) : (s.wait k).trace = s.trace ++ [.wait k] := rfl
@[simp] theorem State.wait_responses (k : Nat) (s : State) : (s.wait k).responses = s.responses := rfl
@[simp] theorem State.wait_moves (k : Nat) (s : State) : (s.wait k).moves = s.moves := rfl

@[simp] theorem State.storeByte_cfg (s : State) : (s.storeByte).cfg = s.cfg := rfl
@[simp] theorem State.storeByte_bus (s : State) : (s.storeByte).bus = s.bus := rfl
@[simp] theorem State.storeByte_phase (s : State) : (s.storeByte).phase = s.phase := rfl
@[simp] theorem State.storeByte_doe (s : State) : (s.storeByte).doe = s.doe := rfl
@[simp] theorem State.storeByte_ale (s : State) : (s.storeByte).ale = s.ale := rfl
@[simp] theorem State.storeByte_we (s : State) : (s.storeByte).we = s.we := rfl
@[simp] theorem State.storeByte_ce (s : State) : (s.storeByte).ce = s.ce := rfl
@[simp] theorem State.storeByte_dir (s : State) : (s.storeByte).dir = s.dir := rfl
@[simp] theorem State.storeByte_outVal (s : State) : (s.storeByte).outVal = s.outVal := rfl
@[simp] theorem State.storeByte_rdVal (s : State) : (s.storeByte).rdVal = s.rdVal := rfl
@[simp] theorem State.storeByte_curOp (s : State) : (s.storeByte).curOp = s.curOp := rfl
@[simp] theorem State.storeByte_curData (s : State) : (s.storeByte).curData = s.curData := rfl
@[simp] theorem State.storeByte_curArg (s : State) : (s.storeByte).curArg = s.curArg := rfl
@[simp] theorem State.storeByte_ustep (s : State) : (s.storeByte).ustep = s.ustep := rfl
@[simp] theorem State.storeByte_dlyCnt (s : State) : (s.storeByte).dlyCnt = s.dlyCnt := rfl
@[simp] theorem State.storeByte_fault (s : State) : (s.storeByte).fault = s.fault := rfl
@[simp] theorem State.storeByte_faultCw (s : State) : (s.storeByte).faultCw = s.faultCw := rfl
@[simp] theorem State.storeByte_busy (s : State) : (s.storeByte).busy = s.busy := rfl
@[simp] theorem State.storeByte_inReset (s : State) : (s.storeByte).inReset = s.inReset := rfl
@[simp] theorem State.storeByte_devAlatch (s : State) : (s.storeByte).devAlatch = s.devAlatch := rfl
@[simp] theorem State.storeByte_dev (s : State) : (s.storeByte).dev = s.dev.write s.devAlatch (dataLane s.outVal) := rfl
@[simp] theorem State.storeByte_sinceLines (s : State) : (s.storeByte).sinceLines = s.sinceLines := rfl
@[simp] theorem State.storeByte_sinceValid (s : State) : (s.storeByte).sinceValid = s.sinceValid := rfl
@[simp] theorem State.storeByte_pulse (s : State) : (s.storeByte).pulse = s.pulse := rfl
@[simp] theorem State.storeByte_draws (s : State) : (s.storeByte).draws = s.draws := rfl
@[simp] theorem State.storeByte_trace (s : State) : (s.storeByte).trace = s.trace := rfl
@[simp] theorem State.storeByte_responses (s : State) : (s.storeByte).responses = s.responses := rfl
@[simp] theorem State.storeByte_moves (s : State) : (s.storeByte).moves = s.moves := rfl

@[simp] theorem State.spoilLatch_cfg (s : State) : (s.spoilLatch).cfg = s.cfg := rfl
@[simp] theorem State.spoilLatch_bus (s : State) : (s.spoilLatch).bus = s.bus := rfl
@[simp] theorem State.spoilLatch_phase (s : State) : (s.spoilLatch).phase = s.phase := rfl
@[simp] theorem State.spoilLatch_doe (s : State) : (s.spoilLatch).doe = s.doe := rfl
@[simp] theorem State.spoilLatch_ale (s : State) : (s.spoilLatch).ale = s.ale := rfl
@[simp] theorem State.spoilLatch_we (s : State) : (s.spoilLatch).we = s.we := rfl
@[simp] theorem State.spoilLatch_ce (s : State) : (s.spoilLatch).ce = s.ce := rfl
@[simp] theorem State.spoilLatch_dir (s : State) : (s.spoilLatch).dir = s.dir := rfl
@[simp] theorem State.spoilLatch_outVal (s : State) : (s.spoilLatch).outVal = s.outVal := rfl
@[simp] theorem State.spoilLatch_rdVal (s : State) : (s.spoilLatch).rdVal = s.rdVal := rfl
@[simp] theorem State.spoilLatch_curOp (s : State) : (s.spoilLatch).curOp = s.curOp := rfl
@[simp] theorem State.spoilLatch_curData (s : State) : (s.spoilLatch).curData = s.curData := rfl
@[simp] theorem State.spoilLatch_curArg (s : State) : (s.spoilLatch).curArg = s.curArg := rfl
@[simp] theorem State.spoilLatch_ustep (s : State) : (s.spoilLatch).ustep = s.ustep := rfl
@[simp] theorem State.spoilLatch_dlyCnt (s : State) : (s.spoilLatch).dlyCnt = s.dlyCnt := rfl
@[simp] theorem State.spoilLatch_fault (s : State) : (s.spoilLatch).fault = s.fault := rfl
@[simp] theorem State.spoilLatch_faultCw (s : State) : (s.spoilLatch).faultCw = s.faultCw := rfl
@[simp] theorem State.spoilLatch_busy (s : State) : (s.spoilLatch).busy = s.busy := rfl
@[simp] theorem State.spoilLatch_inReset (s : State) : (s.spoilLatch).inReset = s.inReset := rfl
@[simp] theorem State.spoilLatch_devAlatch (s : State) : (s.spoilLatch).devAlatch = Config.draw20 s.draws := rfl
@[simp] theorem State.spoilLatch_dev (s : State) : (s.spoilLatch).dev = s.dev := rfl
@[simp] theorem State.spoilLatch_sinceLines (s : State) : (s.spoilLatch).sinceLines = s.sinceLines := rfl
@[simp] theorem State.spoilLatch_sinceValid (s : State) : (s.spoilLatch).sinceValid = 0 := rfl
@[simp] theorem State.spoilLatch_pulse (s : State) : (s.spoilLatch).pulse = s.pulse := rfl
@[simp] theorem State.spoilLatch_draws (s : State) : (s.spoilLatch).draws = s.draws + 1 := rfl
@[simp] theorem State.spoilLatch_trace (s : State) : (s.spoilLatch).trace = s.trace := rfl
@[simp] theorem State.spoilLatch_responses (s : State) : (s.spoilLatch).responses = s.responses := rfl
@[simp] theorem State.spoilLatch_moves (s : State) : (s.spoilLatch).moves = s.moves := rfl

@[simp] theorem State.spoilDevice_cfg (s : State) : (s.spoilDevice).cfg = s.cfg := rfl
@[simp] theorem State.spoilDevice_bus (s : State) : (s.spoilDevice).bus = s.bus := rfl
@[simp] theorem State.spoilDevice_phase (s : State) : (s.spoilDevice).phase = s.phase := rfl
@[simp] theorem State.spoilDevice_doe (s : State) : (s.spoilDevice).doe = s.doe := rfl
@[simp] theorem State.spoilDevice_ale (s : State) : (s.spoilDevice).ale = s.ale := rfl
@[simp] theorem State.spoilDevice_we (s : State) : (s.spoilDevice).we = s.we := rfl
@[simp] theorem State.spoilDevice_ce (s : State) : (s.spoilDevice).ce = s.ce := rfl
@[simp] theorem State.spoilDevice_dir (s : State) : (s.spoilDevice).dir = s.dir := rfl
@[simp] theorem State.spoilDevice_outVal (s : State) : (s.spoilDevice).outVal = s.outVal := rfl
@[simp] theorem State.spoilDevice_rdVal (s : State) : (s.spoilDevice).rdVal = s.rdVal := rfl
@[simp] theorem State.spoilDevice_curOp (s : State) : (s.spoilDevice).curOp = s.curOp := rfl
@[simp] theorem State.spoilDevice_curData (s : State) : (s.spoilDevice).curData = s.curData := rfl
@[simp] theorem State.spoilDevice_curArg (s : State) : (s.spoilDevice).curArg = s.curArg := rfl
@[simp] theorem State.spoilDevice_ustep (s : State) : (s.spoilDevice).ustep = s.ustep := rfl
@[simp] theorem State.spoilDevice_dlyCnt (s : State) : (s.spoilDevice).dlyCnt = s.dlyCnt := rfl
@[simp] theorem State.spoilDevice_fault (s : State) : (s.spoilDevice).fault = s.fault := rfl
@[simp] theorem State.spoilDevice_faultCw (s : State) : (s.spoilDevice).faultCw = s.faultCw := rfl
@[simp] theorem State.spoilDevice_busy (s : State) : (s.spoilDevice).busy = s.busy := rfl
@[simp] theorem State.spoilDevice_inReset (s : State) : (s.spoilDevice).inReset = s.inReset := rfl
@[simp] theorem State.spoilDevice_devAlatch (s : State) : (s.spoilDevice).devAlatch = s.devAlatch := rfl
@[simp] theorem State.spoilDevice_dev (s : State) : (s.spoilDevice).dev = s.dev.spoil s.draws := rfl
@[simp] theorem State.spoilDevice_sinceLines (s : State) : (s.spoilDevice).sinceLines = s.sinceLines := rfl
@[simp] theorem State.spoilDevice_sinceValid (s : State) : (s.spoilDevice).sinceValid = s.sinceValid := rfl
@[simp] theorem State.spoilDevice_pulse (s : State) : (s.spoilDevice).pulse = s.pulse := rfl
@[simp] theorem State.spoilDevice_draws (s : State) : (s.spoilDevice).draws = s.draws + 1 := rfl
@[simp] theorem State.spoilDevice_trace (s : State) : (s.spoilDevice).trace = s.trace := rfl
@[simp] theorem State.spoilDevice_responses (s : State) : (s.spoilDevice).responses = s.responses := rfl
@[simp] theorem State.spoilDevice_moves (s : State) : (s.spoilDevice).moves = s.moves := rfl

@[simp] theorem State.microStep_cfg (m : MicroStep) (s : State) : (s.microStep m).cfg = (s.act m.action).cfg := rfl
@[simp] theorem State.microStep_bus (m : MicroStep) (s : State) : (s.microStep m).bus = m.bus.apply (s.act m.action) := rfl
@[simp] theorem State.microStep_phase (m : MicroStep) (s : State) : (s.microStep m).phase = m.phase.getD (s.act m.action).phase := rfl
@[simp] theorem State.microStep_doe (m : MicroStep) (s : State) : (s.microStep m).doe = (s.act m.action).doe := rfl
@[simp] theorem State.microStep_ale (m : MicroStep) (s : State) : (s.microStep m).ale = (s.act m.action).ale := rfl
@[simp] theorem State.microStep_we (m : MicroStep) (s : State) : (s.microStep m).we = (s.act m.action).we := rfl
@[simp] theorem State.microStep_ce (m : MicroStep) (s : State) : (s.microStep m).ce = (s.act m.action).ce := rfl
@[simp] theorem State.microStep_dir (m : MicroStep) (s : State) : (s.microStep m).dir = (s.act m.action).dir := rfl
@[simp] theorem State.microStep_outVal (m : MicroStep) (s : State) : (s.microStep m).outVal = (s.act m.action).outVal := rfl
@[simp] theorem State.microStep_rdVal (m : MicroStep) (s : State) : (s.microStep m).rdVal = (s.act m.action).rdVal := rfl
@[simp] theorem State.microStep_curOp (m : MicroStep) (s : State) : (s.microStep m).curOp = (s.act m.action).curOp := rfl
@[simp] theorem State.microStep_curData (m : MicroStep) (s : State) : (s.microStep m).curData = (s.act m.action).curData := rfl
@[simp] theorem State.microStep_curArg (m : MicroStep) (s : State) : (s.microStep m).curArg = (s.act m.action).curArg := rfl
@[simp] theorem State.microStep_ustep (m : MicroStep) (s : State) : (s.microStep m).ustep = s.ustep + 1 := rfl
@[simp] theorem State.microStep_dlyCnt (m : MicroStep) (s : State) : (s.microStep m).dlyCnt = (s.act m.action).dlyCnt := rfl
@[simp] theorem State.microStep_fault (m : MicroStep) (s : State) : (s.microStep m).fault = (s.act m.action).fault := rfl
@[simp] theorem State.microStep_faultCw (m : MicroStep) (s : State) : (s.microStep m).faultCw = (s.act m.action).faultCw := rfl
@[simp] theorem State.microStep_busy (m : MicroStep) (s : State) : (s.microStep m).busy = (s.act m.action).busy := rfl
@[simp] theorem State.microStep_inReset (m : MicroStep) (s : State) : (s.microStep m).inReset = (s.act m.action).inReset := rfl
@[simp] theorem State.microStep_devAlatch (m : MicroStep) (s : State) : (s.microStep m).devAlatch = (s.act m.action).devAlatch := rfl
@[simp] theorem State.microStep_dev (m : MicroStep) (s : State) : (s.microStep m).dev = (s.act m.action).dev := rfl
@[simp] theorem State.microStep_sinceLines (m : MicroStep) (s : State) : (s.microStep m).sinceLines = (s.act m.action).sinceLines := rfl
@[simp] theorem State.microStep_sinceValid (m : MicroStep) (s : State) : (s.microStep m).sinceValid = (s.act m.action).sinceValid := rfl
@[simp] theorem State.microStep_pulse (m : MicroStep) (s : State) : (s.microStep m).pulse = (s.act m.action).pulse := rfl
@[simp] theorem State.microStep_draws (m : MicroStep) (s : State) : (s.microStep m).draws = (s.act m.action).draws := rfl
@[simp] theorem State.microStep_trace (m : MicroStep) (s : State) : (s.microStep m).trace = (s.act m.action).trace := rfl
@[simp] theorem State.microStep_responses (m : MicroStep) (s : State) : (s.microStep m).responses = (s.act m.action).responses := rfl
@[simp] theorem State.microStep_moves (m : MicroStep) (s : State) : (s.microStep m).moves = (s.act m.action).moves := rfl

end Sys2Proof.Machine
end

