-- ==== Sys2Proof/Laws/Ops.lean ====
section
/-! SUPPORT. One lemma for each shared operation: all it can do. Provers cite these instead of unfolding the operations. -/

namespace Sys2Proof.Machine

/-! ### The pins -/

theorem State.follow_latched {s : State} (h : s.ale = .latched) : s.follow = s := by
  simp [State.follow, h]

theorem State.freeze_latched {s : State} (h : s.ale = .latched) : s.freeze = s := by
  simp [State.freeze, h]

theorem State.level_driven {s : State} (hd : s.dir = .output) (ho : s.doe = false) : s.level = s.outVal := by
  simp [State.level, hd, State.deviceDrives, ho]

theorem State.drawsAfterLevel_driven {s : State} (hd : s.dir = .output) (ho : s.doe = false) :
    s.drawsAfterLevel = s.draws := by
  simp [State.drawsAfterLevel, hd, State.deviceDrives, ho]

theorem State.follow_transparent {s : State} (h : s.ale = .transparent) (hd : s.dir = .output) (ho : s.doe = false) :
    s.follow = { s with devAlatch := s.outVal, sinceValid := 0 } := by
  simp [State.follow, h, State.level_driven hd ho, State.drawsAfterLevel_driven hd ho]

theorem State.setDoe_latched {s : State} (h : s.ale = .latched) (b : Bool) :
    s.setDoe b =
      { s with
        doe := b
        sinceValid := if b && !s.doe then 0 else s.sinceValid
        sinceLines := 0
        pulse := none
        trace := s.trace ++ [.setDoe b] } := by
  simp [State.setDoe, State.follow, h, State.emit]

theorem State.setDir_latched {s : State} (h : s.ale = .latched) (d : Direction) :
    s.setDir d = { s with dir := d, sinceLines := 0, pulse := none, trace := s.trace ++ [.setDir d] } := by
  simp [State.setDir, State.follow, h, State.emit]

theorem State.drive_latched {s : State} (h : s.ale = .latched) (v : Lines) :
    s.drive v = { s with outVal := v, sinceLines := 0, pulse := none, trace := s.trace ++ [.drive v] } := by
  simp [State.drive, State.follow, h, State.emit]

theorem State.drive_transparent {s : State} (h : s.ale = .transparent) (hd : s.dir = .output) (ho : s.doe = false)
    (v : Lines) :
    s.drive v =
      { s with
        outVal := v
        devAlatch := v
        sinceLines := 0
        sinceValid := 0
        pulse := none
        trace := s.trace ++ [.drive v] } := by
  simp [State.drive, State.follow, h, State.level, State.drawsAfterLevel, State.deviceDrives, hd, ho, State.emit]

theorem State.setAle_transparent {s : State} (hd : s.dir = .output) (ho : s.doe = false) :
    s.setAle .transparent =
      { s with
        ale := .transparent
        devAlatch := s.outVal
        sinceValid := 0
        pulse := none
        trace := s.trace ++ [.setAle .transparent] } := by
  simp [State.setAle, State.follow, State.level, State.drawsAfterLevel, State.deviceDrives, hd, ho, State.emit]

/-- The freezing of a transparent latch keeps its value exactly when the lines have settled (20_memory.md R44 (b)). -/
theorem State.setAle_latched {s : State} (h : s.ale = .transparent) :
    s.setAle .latched =
      if decide (Config.settleUnits ≤ s.sinceLines) && s.cfg.settleOK then
        { s with ale := .latched, pulse := none, trace := s.trace ++ [.setAle .latched] }
      else
        { s with
          ale := .latched
          devAlatch := Config.draw20 s.draws
          draws := s.draws + 1
          sinceValid := 0
          pulse := none
          trace := s.trace ++ [.setAle .latched] } := by
  by_cases hc : (decide (Config.settleUnits ≤ s.sinceLines) && s.cfg.settleOK) = true
  · simp only [State.setAle, State.freeze, h, hc, State.emit, if_true]
  · simp only [State.setAle, State.freeze, h, hc, State.emit, State.spoilLatch, Bool.false_eq_true, if_false]

theorem State.setWe_true (s : State) :
    s.setWe true = { s with we := true, pulse := some 0, trace := s.trace ++ [.setWe true] } := rfl

/-- What the device makes of the end of a full write pulse, by `ce` and R106 (b) (20_memory.md R47). -/
def pulseEffect (s : State) : State :=
  if !s.ce then s else if s.cfg.writePulseOK then s.storeByte else s.spoilDevice

theorem State.endPulse_full {s : State} (hd : s.dir = .output) (ho : s.doe = false)
    (hp : s.pulse = some Config.writePulseUnits) : s.endPulse = pulseEffect s := by
  simp [State.endPulse, pulseEffect, hd, ho, hp]

/-! ### Micro-step lists -/

theorem runSteps_append (xs ys : List MicroStep) (s : State) :
    runSteps (xs ++ ys) s =
      match runSteps xs s with
      | .next t => runSteps ys t
      | .fault r => .fault r
      | .refused r => .refused r := by
  induction xs generalizing s with
  | nil => rfl
  | cons m ms ih =>
    simp only [List.cons_append, runSteps]
    split
    · rfl
    · exact ih _

/-- Micro-steps never answer a refusal. -/
theorem runSteps_ne_refused (xs : List MicroStep) (s : State) (r : Refusal) : runSteps xs s ≠ .refused r := by
  induction xs generalizing s with
  | nil => simp [runSteps]
  | cons m ms ih =>
    simp only [runSteps]
    split
    · simp
    · exact ih _

/-- An invariant of micro-steps is one of their lists. -/
theorem runSteps_induct {P : State → Prop} {xs : List MicroStep} {s t : State} (h : runSteps xs s = .next t) (h0 : P s)
    (hs : ∀ m ∈ xs, ∀ u, P u → P (u.microStep m)) : P t := by
  induction xs generalizing s with
  | nil =>
    simp only [runSteps, Host.Outcome.next.injEq] at h
    exact h ▸ h0
  | cons m ms ih =>
    simp only [runSteps] at h
    split at h
    · simp at h
    · exact ih h (hs m (by simp) _ h0) fun m' hm' => hs m' (by simp [hm'])

/-! ### The command's frame -/

theorem exec_eq_perform (i : Instr) (s : State) :
    exec i s = s.perform i.isPrimitive (precondition i) (microSteps i) (resultValue i) := by
  cases i <;> rfl

theorem State.raise_none {s : State} (h : s.fault = none) (x : BlockFault) :
    s.raise x = { s with fault := some x, faultCw := s.cmdWord } := by
  simp [State.raise, h]

theorem State.raise_some {s : State} {f : BlockFault} (h : s.fault = some f) (x : BlockFault) : s.raise x = s := by
  simp [State.raise, h]

/-- The three outcomes of the checks with no fault recorded (60_exceptions.md R185). -/
theorem State.runChecks_cases {s : State} (h : s.fault = none) (p q : Bool) :
    s.runChecks p q =
      if p && !s.cfg.primEn then { s with fault := some .illegalCommand, faultCw := s.cmdWord }
      else if q then s
      else { s with fault := some .busTimingViolation, faultCw := s.cmdWord } := by
  simp [State.runChecks, h, State.raise]

theorem State.perform_refused {s : State} {f : BlockFault} (h : s.fault = some f) (p : Bool) (pre : State → Bool)
    (ms : List MicroStep) (v : State → Lines) : s.perform p pre ms v = .next (s.answer f.status 0#20) := by
  simp [State.perform, State.runChecks, h]

theorem State.perform_illegal {s : State} (h : s.fault = none) {p : Bool} (hp : (p && !s.cfg.primEn) = true)
    (pre : State → Bool) (ms : List MicroStep) (v : State → Lines) :
    s.perform p pre ms v = .next ((s.raise .illegalCommand).answer .illegalCommand 0#20) := by
  simp only [State.perform, State.runChecks_cases h, hp, if_true, State.raise_none h, BlockFault.status]

theorem State.perform_violation {s : State} (h : s.fault = none) {p : Bool} (hp : (p && !s.cfg.primEn) = false)
    {pre : State → Bool} (hq : pre s = false) (ms : List MicroStep) (v : State → Lines) :
    s.perform p pre ms v = .next ((s.raise .busTimingViolation).answer .busTimingViolation 0#20) := by
  simp only [State.perform, State.runChecks_cases h, hp, hq, Bool.false_eq_true, if_false, State.raise_none h,
    BlockFault.status]

theorem State.perform_runs {s : State} (h : s.fault = none) {p : Bool} (hp : (p && !s.cfg.primEn) = false)
    {pre : State → Bool} (hq : pre s = true) (ms : List MicroStep) (v : State → Lines) :
    s.perform p pre ms v =
      match runSteps ms s with
      | .next t => .next (t.answer .ok (v t))
      | .fault r => .fault r
      | .refused r => .refused r := by
  cases hr : runSteps ms s <;>
  simp only [State.perform, State.runChecks_cases h, hp, hq, Bool.false_eq_true, if_false, if_true, h, hr]

/-- The command word of an accepted command is the word accepted (10_state.md R19). -/
theorem packWord_fields (w : CmdWord) : packWord (opField w) (dataField w) (argField w) = w := by
  apply BitVec.eq_of_getLsbD_eq
  intro i hi
  simp only [packWord, opField, dataField, argField, BitVec.getLsbD_append, BitVec.getLsbD_extractLsb']
  by_cases h1 : i < 32
  · simp [h1]
  · by_cases h2 : i - 32 < 8
    · simp [h1, h2, show 32 + (i - 32) = i by omega]
    · simp [h1, h2, show i - 32 - 8 < 4 by omega, show 40 + (i - 32 - 8) = i by omega]

@[simp] theorem State.accept_cmdWord (w : CmdWord) (s : State) : (s.accept w).cmdWord = w := packWord_fields w

end Sys2Proof.Machine
end

