-- ==== Sys2Proof/Laws/Runs.lean ====
section
/-! SUPPORT. What each procedure's micro-step list does from a state whose latch is frozen: the whole next state, once. -/

namespace Sys2Proof.Machine

theorem run_prepAddr {s : State} (h : s.ale = .latched) :
    runSteps prepAddrSteps s =
      .next { s with
        doe := false
        dir := .output
        bus := .addressDrive
        sinceLines := 0
        pulse := none
        ustep := s.ustep + 2
        trace := s.trace ++ [.setDoe false, .setDir .output] } := by
  simp [runSteps, prepAddrSteps, State.microStep, State.act, State.setDoe_latched, State.setDir_latched, h,
    State.contention, BusRule.apply]

theorem run_busIdle {s : State} (h : s.ale = .latched) :
    runSteps busIdleSteps s =
      .next { s with
        doe := false
        dir := .input
        bus := .idle
        sinceLines := 0
        pulse := none
        ustep := s.ustep + 2
        trace := s.trace ++ [.setDoe false, .setDir .input] } := by
  simp [runSteps, busIdleSteps, State.microStep, State.act, State.setDoe_latched, State.setDir_latched, h,
    State.contention, BusRule.apply]

theorem run_prepRead {s : State} (h : s.ale = .latched) :
    runSteps prepReadSteps s =
      .next { s with
        doe := true
        dir := .input
        bus := .dataRead
        sinceValid := if s.doe then s.sinceValid else 0
        sinceLines := 0
        pulse := none
        ustep := s.ustep + 2
        trace := s.trace ++ [.setDir .input, .setDoe true] } := by
  cases hd : s.doe <;>
  simp [runSteps, prepReadSteps, State.microStep, State.act, State.setDoe_latched, State.setDir_latched, h,
    State.contention, BusRule.apply, hd]

theorem run_drive {s : State} (h : s.ale = .latched) (hc : s.contention = false) (arg : Arg) :
    runSteps (driveSteps arg) s =
      .next { s with
        outVal := lineValue arg
        sinceLines := 0
        pulse := none
        ustep := s.ustep + 1
        trace := s.trace ++ [.drive (lineValue arg)] } := by
  simp only [State.contention] at hc
  simp [runSteps, driveSteps, State.microStep, State.act, State.drive_latched, h, State.contention, BusRule.apply, hc]

theorem run_delay {s : State} (hc : s.contention = false) (cls : DelayClass) :
    runSteps (delaySteps cls) s =
      .next { s with
        dlyCnt := 0
        sinceLines := s.sinceLines + delayUnits cls
        sinceValid := s.sinceValid + delayUnits cls
        pulse := s.pulse.map (· + delayUnits cls)
        ustep := s.ustep + 1
        trace := s.trace ++ [.wait (delayUnits cls)] } := by
  simp only [State.contention] at hc
  simp [runSteps, delaySteps, State.microStep, State.act, State.wait, State.emit, State.contention, BusRule.apply]
  intro hd
  simpa [of_decide_eq_true hd] using hc

theorem run_sample {s : State} (hd : s.dir = .input) :
    runSteps sampleSteps s =
      .next { s with
        rdVal := s.level
        draws := s.draws + 1
        ustep := s.ustep + 1
        trace := s.trace ++ [.sample s.level] } := by
  simp [runSteps, sampleSteps, State.microStep, State.act, State.sample, State.emit, State.contention, BusRule.apply, hd,
    State.drawsAfterLevel]

/-- LATCH_ADDR: the address is in the device's latch, held if R106 (a) holds, else a free value (42_address_latch.md R130, R131). -/
theorem run_latchAddr {s : State} (h : s.ale = .latched) (hd : s.dir = .output) (ho : s.doe = false) (arg : Arg) :
    runSteps (latchAddrSteps arg) s =
      .next { s with
        outVal := deviceAddress arg
        bus := .addressLatched
        devAlatch := if s.cfg.settleOK then deviceAddress arg else Config.draw20 s.draws
        draws := if s.cfg.settleOK then s.draws else s.draws + 1
        dlyCnt := 0
        sinceLines := 1
        sinceValid := if s.cfg.settleOK then 1 else 0
        pulse := none
        ustep := s.ustep + 4
        trace := s.trace ++ [.setAle .transparent, .drive (deviceAddress arg), .wait 1, .setAle .latched] } := by
  cases hk : s.cfg.settleOK <;>
  simp [runSteps, latchAddrSteps, State.microStep, State.act, State.setAle_transparent, State.drive_transparent, h, hd, ho,
    State.contention, BusRule.apply, State.wait, State.emit, State.setAle_latched, Config.settleUnits, hk]

/-- What the end of the write pulse of PREP_WRITE makes of the device: `DevWrite` under R106 (b) with the chip selected (20_memory.md R47). -/
def writtenDevice (s : State) (data : Byte) : Device :=
  if !s.ce then s.dev
  else if s.cfg.writePulseOK then s.dev.write s.devAlatch data
  else s.dev.spoil s.draws

/-- The draws after that pulse. -/
def drawsAfterWrite (s : State) : Nat :=
  if !s.ce then s.draws else if s.cfg.writePulseOK then s.draws else s.draws + 1

theorem dataLane_dataLines (b : Byte) : dataLane (dataLines b) = b := by
  apply BitVec.eq_of_getLsbD_eq
  intro i hi
  simp [dataLane, dataLines, hi, show i < 20 by omega]

theorem dataLane_withDataLane (f : Lines) (b : Byte) : dataLane (withDataLane f b) = b := by
  apply BitVec.eq_of_getLsbD_eq
  intro i hi
  simp only [dataLane, withDataLane, BitVec.getLsbD_extractLsb', BitVec.getLsbD_append]
  simp [hi]

theorem run_prepWrite {s : State} (h : s.ale = .latched) (data : Byte) :
    runSteps (prepWriteSteps data) s =
      .next { s with
        doe := false
        dir := .input
        bus := .idle
        we := false
        outVal := dataLines data
        dev := writtenDevice s data
        draws := drawsAfterWrite s
        dlyCnt := 0
        sinceLines := 0
        sinceValid := s.sinceValid + 1
        pulse := none
        ustep := s.ustep + 7
        trace := s.trace ++ [.setDoe false, .setDir .output, .drive (dataLines data), .setWe true, .wait 1, .setWe false,
          .setDir .input] } := by
  cases hc : s.ce <;> cases hk : s.cfg.writePulseOK <;>
  simp [runSteps, prepWriteSteps, State.microStep, State.act, State.setDoe_latched, State.setDir_latched, State.drive_latched, h,
    State.contention, BusRule.apply, State.wait, State.emit, State.setWe, State.endPulse, Config.writePulseUnits,
    writtenDevice, drawsAfterWrite, hc, hk, State.storeByte, State.spoilDevice, dataLane_dataLines]

end Sys2Proof.Machine
end

