-- ==== Sys2Proof/Laws/Access.lean ====
section
/-! SUPPORT. What the whole of READ_BYTE and of WRITE_BYTE does, from any state whose latch is frozen. -/

namespace Sys2Proof.Machine

/-- The address and latch phases, u1 to u6 (43_byte_access.md R140). -/
theorem run_addressSteps {s : State} (h : s.ale = .latched) (arg : Arg) :
    runSteps (addressSteps arg) s =
      .next { s with
        doe := false
        dir := .output
        outVal := deviceAddress arg
        bus := .addressLatched
        phase := .latchPhase
        devAlatch := if s.cfg.settleOK then deviceAddress arg else Config.draw20 s.draws
        draws := if s.cfg.settleOK then s.draws else s.draws + 1
        dlyCnt := 0
        sinceLines := 1
        sinceValid := if s.cfg.settleOK then 1 else 0
        pulse := none
        ustep := s.ustep + 6
        trace := s.trace ++ [.setDoe false, .setDir .output, .setAle .transparent, .drive (deviceAddress arg), .wait 1,
          .setAle .latched] } := by
  cases hk : s.cfg.settleOK <;>
  simp [runSteps, addressSteps, prepAddrSteps, latchAddrSteps, enterAtFirst, enterAtLast, State.microStep, State.act,
    State.setDoe_latched, State.setDir_latched, State.setAle_transparent, State.drive_transparent, h,
    State.contention, BusRule.apply, State.wait, State.emit, State.setAle_latched, Config.settleUnits, hk]

/-- The state READ_BYTE samples in, after u9. -/
def sampledState (arg : Arg) (s : State) : State :=
  { s with
    doe := true
    dir := .input
    outVal := deviceAddress arg
    bus := .dataRead
    phase := .dataPhase
    devAlatch := if s.cfg.settleOK then deviceAddress arg else Config.draw20 s.draws
    draws := if s.cfg.settleOK then s.draws else s.draws + 1
    dlyCnt := 0
    sinceLines := 3
    sinceValid := 3
    pulse := none
    ustep := s.ustep + 9
    trace := s.trace ++ [.setDoe false, .setDir .output, .setAle .transparent, .drive (deviceAddress arg), .wait 1,
      .setAle .latched, .setDir .input, .setDoe true, .wait 3] }

/-- The sample of READ_BYTE. -/
def readSample (arg : Arg) (s : State) : Lines := (sampledState arg s).level

theorem run_readByte {s : State} (h : s.ale = .latched) (arg : Arg) :
    runSteps (readByteSteps arg) s =
      .next { s with
        doe := false
        dir := .input
        outVal := deviceAddress arg
        rdVal := readSample arg s
        bus := .idle
        phase := .idle
        devAlatch := if s.cfg.settleOK then deviceAddress arg else Config.draw20 s.draws
        draws := if s.cfg.settleOK then s.draws + 1 else s.draws + 2
        dlyCnt := 0
        sinceLines := 0
        sinceValid := 3
        pulse := none
        ustep := s.ustep + 12
        trace := s.trace ++ readTrace arg (readSample arg s) } := by
  simp only [readByteSteps, List.append_assoc]
  rw [runSteps_append, run_addressSteps h]
  cases hk : s.cfg.settleOK <;>
  simp [runSteps, prepReadSteps, delaySteps, sampleSteps, busIdleSteps, enterAtFirst, enterAtLast,
    State.microStep, State.act, State.setDoe_latched, State.setDir_latched, h, State.contention, BusRule.apply,
    State.wait, State.sample, State.emit, readTrace, readSample, sampledState, delayUnits, Config.longMult,
    State.drawsAfterLevel, hk, State.level, State.dataValid, State.deviceDrives]

theorem run_writeByte {s : State} (h : s.ale = .latched) (arg : Arg) (data : Byte) :
    runSteps (writeByteSteps arg data) s =
      .next { s with
        doe := false
        dir := .input
        we := false
        outVal := dataLines data
        bus := .idle
        phase := .idle
        devAlatch := if s.cfg.settleOK then deviceAddress arg else Config.draw20 s.draws
        dev := writtenDevice { s with
          devAlatch := if s.cfg.settleOK then deviceAddress arg else Config.draw20 s.draws
          draws := if s.cfg.settleOK then s.draws else s.draws + 1 } data
        draws := drawsAfterWrite { s with draws := if s.cfg.settleOK then s.draws else s.draws + 1 }
        dlyCnt := 0
        sinceLines := 0
        sinceValid := if s.cfg.settleOK then 2 else 1
        pulse := none
        ustep := s.ustep + 13
        trace := s.trace ++ writeTrace arg data } := by
  simp only [writeByteSteps]
  rw [runSteps_append, run_addressSteps h]
  cases hc : s.ce <;> cases hw : s.cfg.writePulseOK <;> cases hk : s.cfg.settleOK <;>
  simp [runSteps, prepWriteSteps, enterAtFirst, enterAtLast,
    State.microStep, State.act, State.setDoe_latched, State.setDir_latched, State.drive_latched, State.contention,
    BusRule.apply, State.wait, State.setWe, State.endPulse, State.emit, writeTrace, Config.writePulseUnits,
    writtenDevice, drawsAfterWrite, State.storeByte, State.spoilDevice, dataLane_dataLines, *]

/-- With the timing obligations, the chip selected and the device not stuck, the sample's data lane is the device's byte (43_byte_access.md R141). -/
theorem readSample_valid {s : State} (arg : Arg) (ht : s.cfg.timingOK = true) (hc : s.ce = true)
    (he : s.dev.stuck = false) :
    readSample arg s = withDataLane (Config.draw20 s.draws) (s.dev.read (deviceAddress arg)) := by
  simp only [Config.timingOK, Bool.and_eq_true] at ht
  simp [readSample, sampledState, State.level, State.dataValid, State.deviceDrives, ht.1.1, ht.2, hc, he, Config.accUnits]

end Sys2Proof.Machine
end

