-- ==== Sys2Proof/Laws/Encoding.lean ====
section
/-! SUPPORT. The fields of a packed word, and when a word decodes. -/

namespace Sys2Proof

theorem opField_packWord (o : BitVec 4) (d : Byte) (a : Arg) : opField (packWord o d a) = o := by
  apply BitVec.eq_of_getLsbD_eq
  intro i hi
  simp only [opField, packWord, BitVec.getLsbD_extractLsb', BitVec.getLsbD_append]
  simp [hi, show ¬(40 + i < 32) by omega, show ¬(40 + i - 32 < 8) by omega, show 40 + i - 32 - 8 = i by omega]

theorem dataField_packWord (o : BitVec 4) (d : Byte) (a : Arg) : dataField (packWord o d a) = d := by
  apply BitVec.eq_of_getLsbD_eq
  intro i hi
  simp only [dataField, packWord, BitVec.getLsbD_extractLsb', BitVec.getLsbD_append]
  simp [hi]

theorem argField_packWord (o : BitVec 4) (d : Byte) (a : Arg) : argField (packWord o d a) = a := by
  apply BitVec.eq_of_getLsbD_eq
  intro i hi
  simp only [argField, packWord, BitVec.getLsbD_extractLsb', BitVec.getLsbD_append]
  simp [hi]

/-- Masking a packed word masks its fields. -/
theorem packWord_and (o o' : BitVec 4) (d d' : Byte) (a a' : Arg) :
    packWord o d a &&& packWord o' d' a' = packWord (o &&& o') (d &&& d') (a &&& a') := by
  apply BitVec.eq_of_getLsbD_eq
  intro i hi
  simp only [packWord, BitVec.getLsbD_and, BitVec.getLsbD_append]
  split
  · rfl
  · split <;> rfl

/-- A word whose `OP` is reserved is rejected by name (30_encoding.md R75). -/
theorem decodeWord_reserved {w : CmdWord} (h3 : 3 ≤ (opField w).toNat) (h7 : (opField w).toNat ≤ 7) :
    decodeWord w = .error (.reservedOp (opField w)) := by
  unfold decodeWord
  have : (opField w).toNat = 3 ∨ (opField w).toNat = 4 ∨ (opField w).toNat = 5 ∨ (opField w).toNat = 6 ∨
      (opField w).toNat = 7 := by omega
  rcases this with h | h | h | h | h <;> simp [h]

/-- What a decoded word's fields are, instruction by instruction (30_encoding.md R72, R73). -/
theorem decodeWord_cases {w : CmdWord} {i : Instr} (h : decodeWord w = .ok i) :
    opField w = i.opcode ∧
    match i with
    | .nop => True
    | .readByte a => argField w = a
    | .writeByte a d => argField w = a ∧ dataField w = d
    | .prepAddr => True
    | .drive a => argField w = a
    | .prepRead => True
    | .sample => True
    | .prepWrite d => dataField w = d
    | .latchAddr a => argField w = a
    | .delay c => delayClassOf (argField w) = c
    | .busIdle => True := by
  have hop : opField w = BitVec.ofNat 4 (opField w).toNat := by simp
  have hlt : (opField w).toNat < 16 := (opField w).isLt
  have hn : (opField w).toNat = 0 ∨ (opField w).toNat = 1 ∨ (opField w).toNat = 2 ∨ (opField w).toNat = 3 ∨
      (opField w).toNat = 4 ∨ (opField w).toNat = 5 ∨ (opField w).toNat = 6 ∨ (opField w).toNat = 7 ∨
      (opField w).toNat = 8 ∨ (opField w).toNat = 9 ∨ (opField w).toNat = 10 ∨ (opField w).toNat = 11 ∨
      (opField w).toNat = 12 ∨ (opField w).toNat = 13 ∨ (opField w).toNat = 14 ∨ (opField w).toNat = 15 := by omega
  rcases hn with e | e | e | e | e | e | e | e | e | e | e | e | e | e | e | e <;>
    (rw [e] at hop; simp only [decodeWord, e] at h) <;>
    first
    | (simp only [Except.ok.injEq] at h; subst h; simp [Instr.opcode, hop])
    | simp at h

end Sys2Proof
end

