-- ==== Sys2Proof/Laws/Memory.lean ====
section
/-! SUPPORT. The device's memory: read after write, and the canonical form is kept by every operation. -/

namespace Sys2Proof.Machine

theorem Memory.read?_write_same (m : Memory) (a : Nat) (v : Byte) : Memory.read? (Memory.write m a v) a = some v := by
  induction m with
  | nil => simp [Memory.write, Memory.read?]
  | cons c m ih =>
    obtain ⟨k, b⟩ := c
    simp only [Memory.write]
    split
    · simp [Memory.read?]
    · split
      · simp [Memory.read?]
      · simp [Memory.read?, *]

theorem Memory.read?_write_other (m : Memory) {a b : Nat} (v : Byte) (h : b ≠ a) :
    Memory.read? (Memory.write m a v) b = Memory.read? m b := by
  induction m with
  | nil => simp [Memory.write, Memory.read?, h]
  | cons c m ih =>
    obtain ⟨k, x⟩ := c
    simp only [Memory.write]
    split
    · simp [Memory.read?, h]
    · split
      · rename_i hk
        subst hk
        simp [Memory.read?, h]
      · simp only [Memory.read?, ih]

theorem Memory.wfFrom_write {m : Memory} {lo a : Nat} (v : Byte) (h : Memory.wfFrom lo m = true) (hl : lo ≤ a)
    (ha : a < 2 ^ 20) : Memory.wfFrom lo (Memory.write m a v) = true := by
  induction m generalizing lo with
  | nil => simp [Memory.write, Memory.wfFrom, hl]; omega
  | cons c m ih =>
    obtain ⟨k, b⟩ := c
    simp only [Memory.wfFrom, Bool.and_eq_true, decide_eq_true_eq] at h
    simp only [Memory.write]
    split
    · simp only [Memory.wfFrom, Bool.and_eq_true, decide_eq_true_eq]
      exact ⟨⟨hl, ha⟩, ⟨by omega, h.1.2⟩, h.2⟩
    · split
      · rename_i hk
        subst hk
        simp only [Memory.wfFrom, Bool.and_eq_true, decide_eq_true_eq]
        exact ⟨⟨hl, ha⟩, h.2⟩
      · simp only [Memory.wfFrom, Bool.and_eq_true, decide_eq_true_eq]
        exact ⟨h.1, ih h.2 (by omega)⟩

/-- A store at a device address keeps the canonical form. -/
theorem Memory.wf_write {m : Memory} (a : Lines) (v : Byte) (h : Memory.wf m = true) :
    Memory.wf (Memory.write m a.toNat v) = true :=
  Memory.wfFrom_write v h (Nat.zero_le _) a.isLt

theorem Device.write_wf {d : Device} (a : Lines) (v : Byte) (h : Memory.wf d.known = true) :
    Memory.wf (d.write a v).known = true := by
  unfold Device.write
  split
  · exact h
  · exact Memory.wf_write a v h
  · rfl

theorem Device.spoil_wf (d : Device) (n : Nat) : Memory.wf (d.spoil n).known = true := rfl

theorem Device.read_write_ram {d : Device} (h : d.kind = .ram) (a b : Lines) (v : Byte) :
    (d.write a v).read b = if b = a then v else d.read b := by
  simp only [Device.write, h, Device.read]
  by_cases hb : b = a
  · subst hb
    simp [Memory.read?_write_same]
  · have : b.toNat ≠ a.toNat := fun h' => hb (BitVec.eq_of_toNat_eq h')
    simp [Memory.read?_write_other _ _ this, hb]

theorem Device.write_rom {d : Device} (h : d.kind = .rom) (a : Lines) (v : Byte) : d.write a v = d := by
  simp [Device.write, h]

theorem writtenDevice_wf {s : State} (data : Byte) (h : s.deviceWf = true) :
    Memory.wf (writtenDevice s data).known = true := by
  unfold writtenDevice
  split
  · exact h
  · split
    · exact Device.write_wf _ _ h
    · exact Device.spoil_wf _ _

theorem State.storeByte_deviceWf {s : State} (h : s.deviceWf = true) : s.storeByte.deviceWf = true :=
  Device.write_wf _ _ h

theorem State.endPulse_deviceWf {s : State} (h : s.deviceWf = true) : s.endPulse.deviceWf = true := by
  unfold State.endPulse
  split
  · exact h
  · split
    · split
      · exact State.storeByte_deviceWf h
      · exact Device.spoil_wf _ _
    · split
      · exact Device.spoil_wf _ _
      · exact h

theorem State.follow_dev (s : State) : s.follow.dev = s.dev := by
  unfold State.follow; split <;> rfl

theorem State.freeze_dev (s : State) : s.freeze.dev = s.dev := by
  unfold State.freeze
  split
  · rfl
  · split <;> rfl

/-- Every pin action keeps the canonical form. -/
theorem State.act_deviceWf {s : State} (a : PinAction) (h : s.deviceWf = true) : (s.act a).deviceWf = true := by
  cases a with
  | setDoe b => simpa [State.act, State.setDoe, State.deviceWf, State.follow_dev] using h
  | setDir d => simpa [State.act, State.setDir, State.deviceWf, State.follow_dev] using h
  | setAle m =>
    cases m with
    | latched => simpa [State.act, State.setAle, State.deviceWf, State.freeze_dev] using h
    | transparent => simpa [State.act, State.setAle, State.deviceWf, State.follow_dev] using h
  | setWe b =>
    cases b with
    | true => exact h
    | false => exact State.endPulse_deviceWf h
  | drive v => simpa [State.act, State.drive, State.deviceWf, State.follow_dev] using h
  | wait k => exact h
  | sample => exact h

theorem State.microStep_deviceWf {s : State} (m : MicroStep) (h : s.deviceWf = true) : (s.microStep m).deviceWf = true :=
  State.act_deviceWf m.action h

theorem runSteps_deviceWf {xs : List MicroStep} {s t : State} (hr : runSteps xs s = .next t) (h : s.deviceWf = true) :
    t.deviceWf = true :=
  runSteps_induct (P := fun u => u.deviceWf = true) hr h fun m _ _ hu => State.microStep_deviceWf m hu

theorem State.markAbandoned_dev (s : State) : s.markAbandoned.dev = s.dev := by
  unfold State.markAbandoned; split <;> rfl

theorem State.assertReset_deviceWf {s : State} (h : s.deviceWf = true) : s.assertReset.deviceWf = true := by
  simp only [State.deviceWf, State.assertReset, State.resetDevice]
  split
  · exact Device.spoil_wf _ _
  · simpa [State.deviceWf, State.markAbandoned_dev] using h

theorem State.reset_deviceWf : State.reset.deviceWf = true := rfl

end Sys2Proof.Machine
end

