-- ==== Sys2Proof/Laws/Frame.lean ====
section
/-! SUPPORT. The frame of pin actions, of micro-steps and of their lists: what none of them writes. -/

namespace Sys2Proof.Machine

@[simp] theorem State.follow_cfg (s : State) : s.follow.cfg = s.cfg := by
  unfold State.follow; split <;> rfl

@[simp] theorem State.freeze_cfg (s : State) : s.freeze.cfg = s.cfg := by
  unfold State.freeze
  split
  · rfl
  · split <;> rfl

@[simp] theorem State.endPulse_cfg (s : State) : s.endPulse.cfg = s.cfg := by
  unfold State.endPulse
  repeat' split
  all_goals rfl

@[simp] theorem State.act_cfg (a : PinAction) (s : State) : (s.act a).cfg = s.cfg := by
  cases a with
  | setDoe b => simp [State.act, State.setDoe]
  | setDir d => simp [State.act, State.setDir]
  | setAle m => cases m <;> simp [State.act, State.setAle]
  | setWe b => cases b <;> simp [State.act, State.setWe]
  | drive v => simp [State.act, State.drive]
  | wait k => rfl
  | sample => rfl

@[simp] theorem State.follow_ce (s : State) : s.follow.ce = s.ce := by
  unfold State.follow; split <;> rfl

@[simp] theorem State.freeze_ce (s : State) : s.freeze.ce = s.ce := by
  unfold State.freeze
  split
  · rfl
  · split <;> rfl

@[simp] theorem State.endPulse_ce (s : State) : s.endPulse.ce = s.ce := by
  unfold State.endPulse
  repeat' split
  all_goals rfl

@[simp] theorem State.act_ce (a : PinAction) (s : State) : (s.act a).ce = s.ce := by
  cases a with
  | setDoe b => simp [State.act, State.setDoe]
  | setDir d => simp [State.act, State.setDir]
  | setAle m => cases m <;> simp [State.act, State.setAle]
  | setWe b => cases b <;> simp [State.act, State.setWe]
  | drive v => simp [State.act, State.drive]
  | wait k => rfl
  | sample => rfl

@[simp] theorem State.follow_curOp (s : State) : s.follow.curOp = s.curOp := by
  unfold State.follow; split <;> rfl

@[simp] theorem State.freeze_curOp (s : State) : s.freeze.curOp = s.curOp := by
  unfold State.freeze
  split
  · rfl
  · split <;> rfl

@[simp] theorem State.endPulse_curOp (s : State) : s.endPulse.curOp = s.curOp := by
  unfold State.endPulse
  repeat' split
  all_goals rfl

@[simp] theorem State.act_curOp (a : PinAction) (s : State) : (s.act a).curOp = s.curOp := by
  cases a with
  | setDoe b => simp [State.act, State.setDoe]
  | setDir d => simp [State.act, State.setDir]
  | setAle m => cases m <;> simp [State.act, State.setAle]
  | setWe b => cases b <;> simp [State.act, State.setWe]
  | drive v => simp [State.act, State.drive]
  | wait k => rfl
  | sample => rfl

@[simp] theorem State.follow_curData (s : State) : s.follow.curData = s.curData := by
  unfold State.follow; split <;> rfl

@[simp] theorem State.freeze_curData (s : State) : s.freeze.curData = s.curData := by
  unfold State.freeze
  split
  · rfl
  · split <;> rfl

@[simp] theorem State.endPulse_curData (s : State) : s.endPulse.curData = s.curData := by
  unfold State.endPulse
  repeat' split
  all_goals rfl

@[simp] theorem State.act_curData (a : PinAction) (s : State) : (s.act a).curData = s.curData := by
  cases a with
  | setDoe b => simp [State.act, State.setDoe]
  | setDir d => simp [State.act, State.setDir]
  | setAle m => cases m <;> simp [State.act, State.setAle]
  | setWe b => cases b <;> simp [State.act, State.setWe]
  | drive v => simp [State.act, State.drive]
  | wait k => rfl
  | sample => rfl

@[simp] theorem State.follow_curArg (s : State) : s.follow.curArg = s.curArg := by
  unfold State.follow; split <;> rfl

@[simp] theorem State.freeze_curArg (s : State) : s.freeze.curArg = s.curArg := by
  unfold State.freeze
  split
  · rfl
  · split <;> rfl

@[simp] theorem State.endPulse_curArg (s : State) : s.endPulse.curArg = s.curArg := by
  unfold State.endPulse
  repeat' split
  all_goals rfl

@[simp] theorem State.act_curArg (a : PinAction) (s : State) : (s.act a).curArg = s.curArg := by
  cases a with
  | setDoe b => simp [State.act, State.setDoe]
  | setDir d => simp [State.act, State.setDir]
  | setAle m => cases m <;> simp [State.act, State.setAle]
  | setWe b => cases b <;> simp [State.act, State.setWe]
  | drive v => simp [State.act, State.drive]
  | wait k => rfl
  | sample => rfl

@[simp] theorem State.follow_fault (s : State) : s.follow.fault = s.fault := by
  unfold State.follow; split <;> rfl

@[simp] theorem State.freeze_fault (s : State) : s.freeze.fault = s.fault := by
  unfold State.freeze
  split
  · rfl
  · split <;> rfl

@[simp] theorem State.endPulse_fault (s : State) : s.endPulse.fault = s.fault := by
  unfold State.endPulse
  repeat' split
  all_goals rfl

@[simp] theorem State.act_fault (a : PinAction) (s : State) : (s.act a).fault = s.fault := by
  cases a with
  | setDoe b => simp [State.act, State.setDoe]
  | setDir d => simp [State.act, State.setDir]
  | setAle m => cases m <;> simp [State.act, State.setAle]
  | setWe b => cases b <;> simp [State.act, State.setWe]
  | drive v => simp [State.act, State.drive]
  | wait k => rfl
  | sample => rfl

@[simp] theorem State.follow_faultCw (s : State) : s.follow.faultCw = s.faultCw := by
  unfold State.follow; split <;> rfl

@[simp] theorem State.freeze_faultCw (s : State) : s.freeze.faultCw = s.faultCw := by
  unfold State.freeze
  split
  · rfl
  · split <;> rfl

@[simp] theorem State.endPulse_faultCw (s : State) : s.endPulse.faultCw = s.faultCw := by
  unfold State.endPulse
  repeat' split
  all_goals rfl

@[simp] theorem State.act_faultCw (a : PinAction) (s : State) : (s.act a).faultCw = s.faultCw := by
  cases a with
  | setDoe b => simp [State.act, State.setDoe]
  | setDir d => simp [State.act, State.setDir]
  | setAle m => cases m <;> simp [State.act, State.setAle]
  | setWe b => cases b <;> simp [State.act, State.setWe]
  | drive v => simp [State.act, State.drive]
  | wait k => rfl
  | sample => rfl

@[simp] theorem State.follow_busy (s : State) : s.follow.busy = s.busy := by
  unfold State.follow; split <;> rfl

@[simp] theorem State.freeze_busy (s : State) : s.freeze.busy = s.busy := by
  unfold State.freeze
  split
  · rfl
  · split <;> rfl

@[simp] theorem State.endPulse_busy (s : State) : s.endPulse.busy = s.busy := by
  unfold State.endPulse
  repeat' split
  all_goals rfl

@[simp] theorem State.act_busy (a : PinAction) (s : State) : (s.act a).busy = s.busy := by
  cases a with
  | setDoe b => simp [State.act, State.setDoe]
  | setDir d => simp [State.act, State.setDir]
  | setAle m => cases m <;> simp [State.act, State.setAle]
  | setWe b => cases b <;> simp [State.act, State.setWe]
  | drive v => simp [State.act, State.drive]
  | wait k => rfl
  | sample => rfl

@[simp] theorem State.follow_inReset (s : State) : s.follow.inReset = s.inReset := by
  unfold State.follow; split <;> rfl

@[simp] theorem State.freeze_inReset (s : State) : s.freeze.inReset = s.inReset := by
  unfold State.freeze
  split
  · rfl
  · split <;> rfl

@[simp] theorem State.endPulse_inReset (s : State) : s.endPulse.inReset = s.inReset := by
  unfold State.endPulse
  repeat' split
  all_goals rfl

@[simp] theorem State.act_inReset (a : PinAction) (s : State) : (s.act a).inReset = s.inReset := by
  cases a with
  | setDoe b => simp [State.act, State.setDoe]
  | setDir d => simp [State.act, State.setDir]
  | setAle m => cases m <;> simp [State.act, State.setAle]
  | setWe b => cases b <;> simp [State.act, State.setWe]
  | drive v => simp [State.act, State.drive]
  | wait k => rfl
  | sample => rfl

@[simp] theorem State.follow_moves (s : State) : s.follow.moves = s.moves := by
  unfold State.follow; split <;> rfl

@[simp] theorem State.freeze_moves (s : State) : s.freeze.moves = s.moves := by
  unfold State.freeze
  split
  · rfl
  · split <;> rfl

@[simp] theorem State.endPulse_moves (s : State) : s.endPulse.moves = s.moves := by
  unfold State.endPulse
  repeat' split
  all_goals rfl

@[simp] theorem State.act_moves (a : PinAction) (s : State) : (s.act a).moves = s.moves := by
  cases a with
  | setDoe b => simp [State.act, State.setDoe]
  | setDir d => simp [State.act, State.setDir]
  | setAle m => cases m <;> simp [State.act, State.setAle]
  | setWe b => cases b <;> simp [State.act, State.setWe]
  | drive v => simp [State.act, State.drive]
  | wait k => rfl
  | sample => rfl

@[simp] theorem State.follow_responses (s : State) : s.follow.responses = s.responses := by
  unfold State.follow; split <;> rfl

@[simp] theorem State.freeze_responses (s : State) : s.freeze.responses = s.responses := by
  unfold State.freeze
  split
  · rfl
  · split <;> rfl

@[simp] theorem State.endPulse_responses (s : State) : s.endPulse.responses = s.responses := by
  unfold State.endPulse
  repeat' split
  all_goals rfl

@[simp] theorem State.act_responses (a : PinAction) (s : State) : (s.act a).responses = s.responses := by
  cases a with
  | setDoe b => simp [State.act, State.setDoe]
  | setDir d => simp [State.act, State.setDir]
  | setAle m => cases m <;> simp [State.act, State.setAle]
  | setWe b => cases b <;> simp [State.act, State.setWe]
  | drive v => simp [State.act, State.drive]
  | wait k => rfl
  | sample => rfl

@[simp] theorem State.follow_phase (s : State) : s.follow.phase = s.phase := by
  unfold State.follow; split <;> rfl

@[simp] theorem State.freeze_phase (s : State) : s.freeze.phase = s.phase := by
  unfold State.freeze
  split
  · rfl
  · split <;> rfl

@[simp] theorem State.endPulse_phase (s : State) : s.endPulse.phase = s.phase := by
  unfold State.endPulse
  repeat' split
  all_goals rfl

@[simp] theorem State.act_phase (a : PinAction) (s : State) : (s.act a).phase = s.phase := by
  cases a with
  | setDoe b => simp [State.act, State.setDoe]
  | setDir d => simp [State.act, State.setDir]
  | setAle m => cases m <;> simp [State.act, State.setAle]
  | setWe b => cases b <;> simp [State.act, State.setWe]
  | drive v => simp [State.act, State.drive]
  | wait k => rfl
  | sample => rfl

@[simp] theorem State.follow_bus (s : State) : s.follow.bus = s.bus := by
  unfold State.follow; split <;> rfl

@[simp] theorem State.freeze_bus (s : State) : s.freeze.bus = s.bus := by
  unfold State.freeze
  split
  · rfl
  · split <;> rfl

@[simp] theorem State.endPulse_bus (s : State) : s.endPulse.bus = s.bus := by
  unfold State.endPulse
  repeat' split
  all_goals rfl

@[simp] theorem State.act_bus (a : PinAction) (s : State) : (s.act a).bus = s.bus := by
  cases a with
  | setDoe b => simp [State.act, State.setDoe]
  | setDir d => simp [State.act, State.setDir]
  | setAle m => cases m <;> simp [State.act, State.setAle]
  | setWe b => cases b <;> simp [State.act, State.setWe]
  | drive v => simp [State.act, State.drive]
  | wait k => rfl
  | sample => rfl

@[simp] theorem State.follow_ustep (s : State) : s.follow.ustep = s.ustep := by
  unfold State.follow; split <;> rfl

@[simp] theorem State.freeze_ustep (s : State) : s.freeze.ustep = s.ustep := by
  unfold State.freeze
  split
  · rfl
  · split <;> rfl

@[simp] theorem State.endPulse_ustep (s : State) : s.endPulse.ustep = s.ustep := by
  unfold State.endPulse
  repeat' split
  all_goals rfl

@[simp] theorem State.act_ustep (a : PinAction) (s : State) : (s.act a).ustep = s.ustep := by
  cases a with
  | setDoe b => simp [State.act, State.setDoe]
  | setDir d => simp [State.act, State.setDir]
  | setAle m => cases m <;> simp [State.act, State.setAle]
  | setWe b => cases b <;> simp [State.act, State.setWe]
  | drive v => simp [State.act, State.drive]
  | wait k => rfl
  | sample => rfl

/-! ### The pin trace: one event per micro-step (00_scope.md R5) -/

/-- The one pin event of an action at a state. -/
def PinAction.event (a : PinAction) (s : State) : PinEvent :=
  match a with
  | .setDoe b => .setDoe b
  | .setDir d => .setDir d
  | .setAle m => .setAle m
  | .setWe b => .setWe b
  | .drive v => .drive v
  | .wait k => .wait k
  | .sample => .sample s.level

@[simp] theorem State.follow_trace (s : State) : s.follow.trace = s.trace := by
  unfold State.follow; split <;> rfl

@[simp] theorem State.freeze_trace (s : State) : s.freeze.trace = s.trace := by
  unfold State.freeze
  split
  · rfl
  · split <;> rfl

@[simp] theorem State.endPulse_trace (s : State) : s.endPulse.trace = s.trace := by
  unfold State.endPulse
  repeat' split
  all_goals rfl

theorem State.act_trace (a : PinAction) (s : State) : (s.act a).trace = s.trace ++ [a.event s] := by
  cases a with
  | setDoe b => simp [State.act, State.setDoe, State.emit, PinAction.event]
  | setDir d => simp [State.act, State.setDir, State.emit, PinAction.event]
  | setAle m => cases m <;> simp [State.act, State.setAle, State.emit, PinAction.event]
  | setWe b => cases b <;> simp [State.act, State.setWe, State.emit, PinAction.event]
  | drive v => simp [State.act, State.drive, State.emit, PinAction.event]
  | wait k => rfl
  | sample => rfl

/-- A run of micro-steps adds one event for each, the `k`-th that of the `k`-th action at some state. -/
theorem runSteps_trace {xs : List MicroStep} {s t : State} (h : runSteps xs s = .next t) :
    ∃ evs, t.trace = s.trace ++ evs ∧ evs.length = xs.length ∧
      ∀ (k : Nat) (m : MicroStep), xs[k]? = some m → ∃ u, evs[k]? = some (m.action.event u) := by
  induction xs generalizing s with
  | nil =>
    simp only [runSteps, Host.Outcome.next.injEq] at h
    exact ⟨[], by simp [h], rfl, by simp⟩
  | cons m ms ih =>
    simp only [runSteps] at h
    split at h
    · simp at h
    · obtain ⟨evs, h1, h2, h3⟩ := ih h
      refine ⟨m.action.event s :: evs, ?_, by simp [h2], ?_⟩
      · rw [h1]
        show (s.act m.action).trace ++ evs = _
        rw [State.act_trace]
        simp
      · intro k m' hk
        cases k with
        | zero => exact ⟨s, by simpa using congrArg (Option.map fun m => m.action.event s) hk⟩
        | succ k => exact h3 k m' (by simpa using hk)

/-- What a run of micro-steps keeps: the parameters, Chip-Enable, the holding registers, the fault record, `busy`, the host's side, the responses. -/
def RunKeeps (s t : State) : Prop :=
  t.cfg = s.cfg ∧ t.ce = s.ce ∧ t.curOp = s.curOp ∧ t.curData = s.curData ∧ t.curArg = s.curArg ∧ t.fault = s.fault ∧
  t.faultCw = s.faultCw ∧ t.busy = s.busy ∧ t.inReset = s.inReset ∧ t.moves = s.moves ∧ t.responses = s.responses

theorem State.microStep_keeps (m : MicroStep) (s : State) : RunKeeps s (s.microStep m) := by
  simp [RunKeeps]

theorem runSteps_keeps {xs : List MicroStep} {s t : State} (h : runSteps xs s = .next t) : RunKeeps s t := by
  refine runSteps_induct (P := fun u => RunKeeps s u) h (by simp [RunKeeps]) fun m _ u hu => ?_
  simpa [RunKeeps] using hu

/-- A run of micro-steps counts them in `ustep` (10_state.md R20). -/
theorem runSteps_ustep {xs : List MicroStep} {s t : State} (h : runSteps xs s = .next t) :
    t.ustep = s.ustep + xs.length := by
  induction xs generalizing s with
  | nil =>
    simp only [runSteps, Host.Outcome.next.injEq] at h
    simp [h]
  | cons m ms ih =>
    simp only [runSteps] at h
    split at h
    · simp at h
    · rw [ih h]
      simp
      omega

/-! ### What a command word can do -/

/-- A command with no fault recorded that ends in a next state: it faulted at acceptance and did nothing else, or it ran all its micro-steps and answered `OK`
(60_exceptions.md R185, R186, 30_encoding.md R77). -/
theorem State.perform_cases {s t : State} {p : Bool} {pre : State → Bool} {ms : List MicroStep} {v : State → Lines}
    (hf : s.fault = none) (h : s.perform p pre ms v = .next t) :
    ((p && !s.cfg.primEn) = true ∧ t = (s.raise .illegalCommand).answer .illegalCommand 0#20) ∨
    ((p && !s.cfg.primEn) = false ∧ pre s = false ∧ t = (s.raise .busTimingViolation).answer .busTimingViolation 0#20) ∨
    ((p && !s.cfg.primEn) = false ∧ pre s = true ∧ ∃ u, runSteps ms s = .next u ∧ t = u.answer .ok (v u)) := by
  cases hp : (p && !s.cfg.primEn) with
  | true =>
    rw [State.perform_illegal hf hp] at h
    exact .inl ⟨rfl, by simpa using h.symm⟩
  | false =>
    cases hq : pre s with
    | false =>
      rw [State.perform_violation hf hp hq] at h
      exact .inr (.inl ⟨rfl, rfl, by simpa using h.symm⟩)
    | true =>
      rw [State.perform_runs hf hp hq] at h
      refine .inr (.inr ⟨rfl, rfl, ?_⟩)
      split at h
      · rename_i u hu
        exact ⟨u, hu, by simpa using h.symm⟩
      · simp at h
      · simp at h

theorem State.issue_ok {w : CmdWord} {i : Instr} (h : decodeWord w = .ok i) (s : State) :
    s.issue w = (s.accept w).perform i.isPrimitive (precondition i) (microSteps i) (resultValue i) := by
  simp [State.issue, h, exec_eq_perform]

theorem State.issue_error {w : CmdWord} {e : DecodeError} (h : decodeWord w = .error e) (s : State) :
    s.issue w = .next (s.accept w).performReserved := by
  simp [State.issue, h]

/-- The preconditions do not look at the handshake. -/
@[simp] theorem precondition_accept (i : Instr) (w : CmdWord) (s : State) : precondition i (s.accept w) = precondition i s := by
  cases i <;> rfl

end Sys2Proof.Machine
end

