-- ==== Sys2Proof/Laws/Boundary.lean ====
section
/-! SUPPORT. The boundary states, as the four cases of the table of 10_state.md R12 that R27 leaves. -/

namespace Sys2Proof.Machine

theorem State.pinsAtRest_iff (s : State) :
    s.pinsAtRest = true ↔
      s.dlyCnt = 0 ∧ s.phase = .idle ∧ s.we = false ∧ s.ale = .latched ∧
      ((s.bus = .idle ∧ s.dir = .input ∧ s.doe = false) ∨ (s.bus = .addressDrive ∧ s.dir = .output ∧ s.doe = false) ∨
       (s.bus = .addressLatched ∧ s.dir = .output ∧ s.doe = false) ∨ (s.bus = .dataRead ∧ s.dir = .input ∧ s.doe = true)) := by
  cases hb : s.bus <;> simp [State.pinsAtRest, State.busTable, hb] <;> tauto

theorem State.atBoundary_iff (s : State) :
    s.atBoundary = true ↔ s.pinsAtRest = true ∧ s.busy = false ∧ s.ustep = 0 := by
  simp [State.atBoundary, and_assoc]

theorem State.inv_iff (s : State) :
    s.inv = true ↔ s.atBoundary = true ∧ s.deviceWf = true ∧ s.ceConstant = true := by
  simp [State.inv, and_assoc]

/-- No boundary state is the bad state `BusContention` (10_state.md R24). -/
theorem State.pinsAtRest_contention {s : State} (h : s.pinsAtRest = true) : s.contention = false := by
  obtain ⟨-, -, -, -, h⟩ := s.pinsAtRest_iff.1 h
  rcases h with h | h | h | h <;> simp [State.contention, h]

theorem State.pinsAtRest_latched {s : State} (h : s.pinsAtRest = true) : s.ale = .latched :=
  (s.pinsAtRest_iff.1 h).2.2.2.1

@[simp] theorem State.accept_pinsAtRest (w : CmdWord) (s : State) : (s.accept w).pinsAtRest = s.pinsAtRest := rfl

@[simp] theorem State.answer_pinsAtRest (st : Status) (v : Lines) (s : State) : (s.answer st v).pinsAtRest = s.pinsAtRest := rfl

/-- A command that is ready and accepted runs its micro-steps and answers `OK`. -/
theorem exec_runs {s t : State} {i : Instr} (hf : s.fault = none) (ha : i.acceptedBy s.cfg = true)
    (hp : precondition i s = true) (h : runSteps (microSteps i) s = .next t) :
    exec i s = .next (t.answer .ok (resultValue i t)) := by
  rw [exec_eq_perform, State.perform_runs hf (by cases h1 : s.cfg.primEn <;> simp_all [Instr.acceptedBy]) hp, h]

end Sys2Proof.Machine
end

