-- ==== Sys2Proof/Laws/PerInstr.lean ====
section
/-! SUPPORT. Statements made for every instruction, one lemma per constructor. -/

namespace Sys2Proof.Laws.Opcode

/-- The field `OP` of the assembler's word is the operation's row of the opcode map (30_encoding.md R72). -/
def Statement (i : Instr) : Prop := opField (encode i) = i.opcode

theorem nop : Statement .nop := opField_packWord _ _ _

theorem readByte (arg : Arg) : Statement (.readByte arg) := opField_packWord _ _ _

theorem writeByte (arg : Arg) (data : Byte) : Statement (.writeByte arg data) := opField_packWord _ _ _

theorem prepAddr : Statement .prepAddr := opField_packWord _ _ _

theorem drive (arg : Arg) : Statement (.drive arg) := opField_packWord _ _ _

theorem prepRead : Statement .prepRead := opField_packWord _ _ _

theorem sample : Statement .sample := opField_packWord _ _ _

theorem prepWrite (data : Byte) : Statement (.prepWrite data) := opField_packWord _ _ _

theorem latchAddr (arg : Arg) : Statement (.latchAddr arg) := opField_packWord _ _ _

theorem delay (cls : DelayClass) : Statement (.delay cls) := opField_packWord _ _ _

theorem busIdle : Statement .busIdle := opField_packWord _ _ _

end Sys2Proof.Laws.Opcode
end

