-- ==== Sys2Proof/Tests/Slice0.lean ====
section
/-! SUPPORT. The model's own tests: well-formedness, decoding, one step at a time, the environment, the clock, the host's clients; and for every
statement with hypotheses a state that meets them. "V<n>", "P<n>", "S<n>" are the vectors, programs and examples of 95_test_vectors.md, from which the
expected results come. -/

namespace Sys2Proof.Machine.Tests

/-! ### Small states -/

/-- `M_RAM` with two known bytes (20_memory.md R48). -/
def ram : Device := { kind := .ram, stuck := false, known := [(0x10, 0xFF#8), (0x42, 0xAB#8)], contents := 0 }

/-- `M_ROM` with the bytes of the source's verify scenario (S3, S4). -/
def rom : Device := { kind := .rom, stuck := false, known := [(0x100, 0x01#8), (0x101, 0x02#8), (0x102, 0x05#8)], contents := 0 }

/-- The boundary state of each row of 10_state.md R12 that R27 leaves, over `ram`, with `dev_alatch = 0x00042` and data valid. -/
def bench (b : BusState) : State :=
  { State.resetWith Config.reference ram with
    bus := b
    dir := if b = .addressDrive ∨ b = .addressLatched then .output else .input
    doe := decide (b = .dataRead)
    devAlatch := 0x00042#20
    sinceValid := 3 }

/-- The state after a fault of DRIVE 0x00123 (P5). -/
def faulted : State :=
  { State.reset with fault := some .busTimingViolation, faultCw := 0x90000000123#44 }

/-- The narrow interface (P9). -/
def narrow : State := { State.reset with cfg := { Config.reference with primEn := false } }

/-- The outcome is a next state with the property. -/
def holds (p : State → Bool) : Host.Outcome State Fault Refusal → Bool
  | .next t => p t
  | .fault _ => false
  | .refused _ => false

theorem exists_of_holds {p : State → Bool} {o : Host.Outcome State Fault Refusal} (h : holds p o = true) :
    ∃ t, o = .next t ∧ p t = true := by
  cases o with
  | next t => exact ⟨t, rfl, h⟩
  | fault r => simp [holds] at h
  | refused r => simp [holds] at h

/-- Pin actions one after another (00_scope.md R5), for the environment's vectors. -/
def actAll (as : List PinAction) (s : State) : State := as.foldl (fun s a => s.act a) s

/-! ### Well-formedness: each check refuses an ill-formed term -/

theorem test_wf_instr : (Instr.writeByte 0xFFFFFFFF#32 0xFF#8).wellFormed = true := by decide

/-- Not every term of `Instr` is accepted by every configuration (V10). -/
theorem test_wf_primitive_refused : Instr.acceptedBy { Config.reference with primEn := false } .prepAddr = false := by decide

theorem test_wf_access_accepted : Instr.acceptedBy { Config.reference with primEn := false } (.readByte 0x42#32) = true := by decide

theorem test_wf_nShort_zero_refused : Config.wellFormed { Config.reference with nShort := 0 } = false := by decide

theorem test_wf_chunk_zero_refused : Config.wellFormed { Config.reference with chunk := 0 } = false := by decide

theorem test_wf_reference : Config.reference.wellFormed = true ∧ Config.reference.timingOK = true := by decide

theorem test_wf_word_too_long_refused : wordInRange (2 ^ 44) = false ∧ decodeTableWord 48 (2 ^ 44) = none := by decide

theorem test_wf_memory_refused :
    Memory.wf [(5, 0#8), (5, 1#8)] = false ∧ Memory.wf [(2 ^ 20, 0#8)] = false ∧ Memory.wf ram.known = true := by decide

/-! ### Decoding: words written out from 30_encoding.md R70 to R73 -/

theorem test_decode_nop : decodeWord 0x0FFFFFFFFFF#44 = .ok .nop := rfl

/-- `0001`, `DATA` ignored, `ARG = 0x00000042` (V4), bit by bit. -/
theorem test_decode_readByte :
    decodeWord 0b00011010101100000000000000000000000001000010#44 = .ok (.readByte 0x00000042#32) := rfl

theorem test_decode_writeByte : decodeWord 0x2FF000FFFFF#44 = .ok (.writeByte 0x000FFFFF#32 0xFF#8) := rfl

theorem test_decode_prepAddr : decodeWord 0x8FFFFFFFFFF#44 = .ok .prepAddr := rfl

theorem test_decode_drive : decodeWord 0x900FFF00123#44 = .ok (.drive 0xFFF00123#32) := rfl

theorem test_decode_prepRead : decodeWord 0xA0000000001#44 = .ok .prepRead := rfl

theorem test_decode_sample : decodeWord 0xB0000000000#44 = .ok .sample := rfl

/-- `1100`, `DATA = 0x5A = 01011010`, `ARG` ignored, bit by bit. -/
theorem test_decode_prepWrite :
    decodeWord 0b11000101101000000000000000000000000000000000#44 = .ok (.prepWrite 0x5A#8) := rfl

theorem test_decode_latchAddr : decodeWord 0xD0000100042#44 = .ok (.latchAddr 0x00100042#32) := rfl

theorem test_decode_delay :
    decodeWord 0xEFFFFFFFFFE#44 = .ok (.delay .short) ∧ decodeWord 0xE0000000003#44 = .ok (.delay .long) := ⟨rfl, rfl⟩

theorem test_decode_busIdle : decodeWord 0xF0000000000#44 = .ok .busIdle := rfl

theorem test_decode_reserved :
    decodeWord 0x30000000000#44 = .error (.reservedOp 3#4) ∧ decodeWord 0x40000000000#44 = .error (.reservedOp 4#4) ∧
    decodeWord 0x50000000000#44 = .error (.reservedOp 5#4) ∧ decodeWord 0x60000000000#44 = .error (.reservedOp 6#4) ∧
    decodeWord 0x7FFFFFFFFFF#44 = .error (.reservedOp 7#4) := ⟨rfl, rfl, rfl, rfl, rfl⟩

theorem test_decode_table : decodeTableWord 44 0x10000000042 = some (.readByte 0x42#32) ∧ decodeTableWord 44 0x30000000000 = none :=
  ⟨rfl, rfl⟩

theorem test_encode : encode (.writeByte 0x10#32 0x5A#8) = 0x25A00000010#44 ∧ encode (.delay .long) = 0xE0000000001#44 := ⟨rfl, rfl⟩

/-! ### One command each -/

/-- V46. -/
theorem test_nop : holds (fun t => decide (t.trace = []) && decide (t.responses = [⟨.ok, 0#20⟩]) && !t.busy)
    (State.reset.issue 0x00000000000#44) = true := by decide

/-- V38, P1, on `M_RAM`: the byte of the device, from an address beyond 20 bits. -/
theorem test_readByte : ∃ t, (bench .idle).issue 0x10000100042#44 = .next t ∧
    t.responses = [⟨.ok, 0x000AB#20⟩] ∧ t.devAlatch = 0x00042#20 ∧ t.trace.length = 12 := by
  refine ⟨_, rfl, ?_, rfl, rfl⟩
  show [(⟨.ok, dataLines (dataLane (withDataLane _ 0xAB#8))⟩ : Response)] = _
  rw [dataLane_withDataLane]
  rfl

/-- V42: the chip not selected; the status is `OK` and the trace whole. -/
theorem test_readByte_unselected : holds (fun t => decide (t.trace.length = 12) && decide (t.responses.map (·.status) = [.ok]))
    (State.issue 0x10000000042#44 { bench .idle with ce := false }) = true := by decide

/-- V45: the byte goes to the truncated address, zero included. -/
theorem test_writeByte : holds (fun t =>
      decide (t.dev.known = [(0x10, 0xFF#8), (0x42, 0xAB#8), (0xFFFFF, 0x00#8)]) && decide (t.devAlatch = 0xFFFFF#20) &&
        decide (t.trace.length = 13))
    ((bench .idle).issue 0x200FFFFFFFF#44) = true := by decide

/-- V44: `M_ROM` keeps its contents. -/
theorem test_writeByte_rom : holds (fun t => decide (t.dev = rom) && decide (t.responses = [⟨.ok, 0#20⟩]))
    (State.issue 0x25A00000010#44 { bench .idle with dev := rom }) = true := by decide

/-- V17. -/
theorem test_prepAddr : holds (fun t =>
      decide (t.trace = [.setDoe false, .setDir .output]) && decide (t.bus = .addressDrive) && !t.doe)
    ((bench .dataRead).issue 0x80000000000#44) = true := by decide

/-- V19. -/
theorem test_drive : holds (fun t => decide (t.outVal = 0x00123#20) && decide (t.bus = .addressDrive) && decide (t.devAlatch = 0x00042#20))
    ((bench .addressDrive).issue 0x900FFF00123#44) = true := by decide

/-- V21. -/
theorem test_drive_violation : holds (fun t =>
      decide (t.fault = some .busTimingViolation) && decide (t.faultCw = 0x90000000123#44) && decide (t.outVal = 0#20) &&
        decide (t.trace = []) && decide (t.responses = [⟨.busTimingViolation, 0#20⟩]))
    (State.reset.issue 0x90000000123#44) = true := by decide

/-- V25: the validity clock goes on. -/
theorem test_prepRead : holds (fun t => decide (t.sinceValid = 3) && decide (t.bus = .dataRead) && decide (t.trace = [.setDir .input, .setDoe true]))
    ((bench .dataRead).issue 0xA0000000000#44) = true := by decide

/-- V24, its first half: the lines are inputs before the device drives. -/
theorem test_prepRead_from_latched : holds (fun t => decide (t.sinceValid = 0) && decide (t.bus = .dataRead) && t.doe)
    ((bench .addressLatched).issue 0xA0000000000#44) = true := by decide

/-- P2, command 5: all twenty bits of the sample in the response. -/
theorem test_sample : ∃ t, (bench .dataRead).issue 0xB0000000000#44 = .next t ∧ dataLane t.rdVal = 0xAB#8 ∧
    t.responses = [⟨.ok, t.rdVal⟩] :=
  ⟨_, rfl, dataLane_withDataLane _ _, rfl⟩

/-- V27. -/
theorem test_sample_violation : holds (fun t => decide (t.fault = some .busTimingViolation) && decide (t.faultCw = 0xB0000000000#44))
    ((bench .addressLatched).issue 0xB0000000000#44) = true := by decide

/-- V28, at the address `0x00042`. -/
theorem test_prepWrite : holds (fun t =>
      decide (t.dev.known = [(0x10, 0xFF#8), (0x42, 0x00#8)]) && decide (t.bus = .idle) && decide (t.outVal = 0x00000#20) &&
        decide (t.trace.length = 7))
    ((bench .addressLatched).issue 0xC0000000000#44) = true := by decide

/-- The chip not selected: the device takes no write (20_memory.md R47). -/
theorem test_prepWrite_unselected : holds (fun t => decide (t.dev = ram))
    (State.issue 0xC5A00000000#44 { bench .dataRead with ce := false }) = true := by decide

/-- V31, V32. -/
theorem test_latchAddr : holds (fun t => decide (t.devAlatch = 0x00042#20) && decide (t.bus = .addressLatched) &&
      decide (t.trace = [.setAle .transparent, .drive 0x00042#20, .wait 1, .setAle .latched]))
    (State.issue 0xD0000100042#44 { bench .addressDrive with devAlatch := 0#20 }) = true := by decide

/-- V35: read strictly, a second LATCH_ADDR faults. -/
theorem test_latchAddr_strict : holds (fun t => decide (t.fault = some .busTimingViolation) && decide (t.devAlatch = 0x00042#20))
    ((bench .addressLatched).issue 0xD0000000002#44) = true := by decide

/-- V11, V14. -/
theorem test_delay : holds (fun t => decide (t.trace = [.wait 3]) && decide (t.bus = .dataRead) && t.doe)
    ((bench .dataRead).issue 0xE0000000001#44) = true := by decide

/-- V15. -/
theorem test_delay_refused : holds (fun t => decide (t.trace = []) && decide (t.responses = [⟨.busTimingViolation, 0#20⟩]))
    (faulted.issue 0xE0000000001#44) = true := by decide

/-- V29a. -/
theorem test_busIdle : holds (fun t => decide (t.bus = .idle) && decide (t.dir = .input) && decide (t.trace = [.setDoe false, .setDir .input]))
    ((bench .addressDrive).issue 0xF0000000000#44) = true := by decide

/-- V50: refused, not decoded. -/
theorem test_reserved_refused : holds (fun t =>
      decide (t.responses = [⟨.busTimingViolation, 0#20⟩]) && decide (t.faultCw = 0x90000000123#44))
    (faulted.issue 0x30000000000#44) = true := by decide

/-- V9. -/
theorem test_reserved : holds (fun t => decide (t.responses = [⟨.illegalCommand, 0#20⟩]) && decide (t.fault = some .illegalCommand) &&
      decide (t.trace = []))
    (State.reset.issue 0x7FFFFFFFFFF#44) = true := by decide

/-- P9. -/
theorem test_narrow : holds (fun t => decide (t.responses = [⟨.illegalCommand, 0#20⟩]) && decide (t.faultCw = 0x80000000000#44))
    (narrow.issue 0x80000000000#44) = true := by decide

/-! ### The environment (95_test_vectors.md section 2.7) -/

/-- V53. -/
theorem test_env_latch_frozen :
    (actAll [.setDir .output, .setAle .transparent] { State.reset with outVal := 0x00007#20 }).devAlatch = 0x00007#20 ∧
    (actAll [.setDir .output, .setAle .transparent, .drive 0x00042#20, .wait 1, .setAle .latched, .drive 0x00099#20]
      State.reset).devAlatch = 0x00042#20 := by decide

/-- V54: one unit is too few, three are enough. -/
theorem test_env_access_time :
    (actAll [.setDir .input, .setDoe true, .wait 1] { bench .addressLatched with sinceValid := 4 }).dataValid = false ∧
    dataLane (actAll [.setDir .input, .setDoe true, .wait 1, .wait 1, .wait 1, .sample]
      { bench .addressLatched with sinceValid := 4 }).rdVal = 0xAB#8 :=
  ⟨by decide, dataLane_withDataLane _ _⟩

/-- V55: no wait before the latch closes. -/
theorem test_env_unsettled :
    (actAll [.setAle .transparent, .drive 0x00005#20, .setAle .latched] (bench .addressDrive)).devAlatch = Config.draw20 1 := rfl

/-- V56: the whole device is a free value. -/
theorem test_env_short_pulse :
    (actAll [.setWe true, .setWe false] (bench .addressDrive)).dev = ram.spoil 1 := rfl

/-- V57. -/
theorem test_env_unselected :
    (actAll [.setDoe true, .wait 3, .sample] { bench .idle with ce := false }).rdVal = Config.draw20 1 := rfl

/-- 20_memory.md R43 (e): both sides driving is the bad state, and the machine stops in it. -/
theorem test_env_contention :
    runSteps [⟨.setDoe true, .keep, none⟩] (bench .addressDrive) = .fault .busContention := rfl

/-! ### Steps, reset and the clock -/

theorem test_step_runs_word : holds (fun t => decide (t.bus = .addressDrive) && t.moves.isEmpty)
    (step (State.reset.withFetchWord 44 0x80000000000)) = true := by decide

/-- V51. -/
theorem test_reset_clears_fault : holds (fun t => decide (t.responses = [⟨.ok, 0#20⟩])) (faulted.assertReset.issue 0x00000000000#44) = true := by decide

/-- 70_reset_and_hazards.md R211: PREP_WRITE cut in its write pulse. -/
theorem test_reset_cuts_pulse : holds (fun t => decide (t.trace.getLast? = some .reset) && t.responses.isEmpty && !t.we && decide (t.dev.known = []))
    ((bench .addressLatched).issueCut 0xC5A00000000#44 4) = true := by decide

/-- V13 with the response a cycle later: accepted at edge 0, DELAY LONG waits three cycles, answers in the fourth. -/
theorem test_clock_delay :
    holds (fun t => t.responding && decide (t.dlyCnt = 0)) (runClock (⟨true, true, 0xE0000000001#44⟩ :: List.replicate 3 ⟨true, false, 0#44⟩) State.reset) = true ∧
    holds (fun t => !t.busy && decide (t.responses = [⟨.ok, 0#20⟩]))
      (runClock (⟨true, true, 0xE0000000001#44⟩ :: List.replicate 4 ⟨true, false, 0#44⟩) State.reset) = true := by decide

/-- V12: `dly_cnt` with `N_SHORT = 4`: 3 after the first cycle of the wait, 0 after the fourth. -/
theorem test_clock_countdown :
    holds (fun t => decide (t.dlyCnt = 3)) (runClock [⟨true, true, 0xE0000000000#44⟩, ⟨true, false, 0#44⟩]
      { State.reset with cfg := { Config.reference with nShort := 4 } }) = true ∧
    holds (fun t => decide (t.dlyCnt = 0) && t.responding)
      (runClock (⟨true, true, 0xE0000000000#44⟩ :: List.replicate 4 ⟨true, false, 0#44⟩)
        { State.reset with cfg := { Config.reference with nShort := 4 } }) = true := by decide

/-- P1, last line: the response of READ_BYTE in cycle 15 with `N_SHORT = 1`. -/
theorem test_clock_readByte :
    holds (fun t => t.responding) (runClock (⟨true, true, 0x10000000042#44⟩ :: List.replicate 14 ⟨true, false, 0#44⟩) State.reset) = true := by decide

/-- V21 at the ports: `(1, 0x00000)` in the cycle after acceptance, and `fault_code` 1 (P5). -/
theorem test_ports_fault : holds (fun t => decide (t.ports.rsp = some (1#2, 0#20)) && decide (t.ports.faultCode = 1#2))
    (runClock [⟨true, true, 0x90000000123#44⟩] State.reset) = true := by decide

/-- 92_eei_decisions.md D5: each control line at its own polarity; `DataRead` has `doe` and `ce` true, `we` false, `ale` latched. -/
theorem test_ports_polarity :
    let s : State := { bench .dataRead with cfg := { Config.reference with polDoe := false, polWe := false } }
    s.ports.doeO = false ∧ s.ports.ceO = true ∧ s.ports.weO = true ∧ s.ports.aleO = false := by decide

/-! ### The host's clients -/

/-- V58, S8. -/
theorem test_verify_empty : verify [] 0x100 (bench .idle) = (.result .success, bench .idle) := rfl

/-- The difference of S4 at its offset 2, as one read. -/
theorem test_verify_mismatch : (verify [0x03#8] 0x102 { bench .idle with dev := rom }).1 = .result (.mismatchAt 0 0x03#8 0x05#8) := by
  have e : dataLane (dataLines (dataLane (withDataLane (Config.draw20 1) 0x05#8))) = 0x05#8 := by
    rw [dataLane_dataLines, dataLane_withDataLane]
  show (if dataLane (dataLines (dataLane (withDataLane (Config.draw20 1) 0x05#8))) = 0x03#8 then
      (_ : VerifyEnd × State) else (.result (.mismatchAt 0 0x03#8 (dataLane (dataLines (dataLane (withDataLane (Config.draw20 1) 0x05#8))))), _)).1 = _
  rw [e]
  rfl

/-- S5. -/
theorem test_format_row :
    formatRow 0x000010 [0x44#8, 0x41#8, 0x56#8, 0x45#8, 0#8, 0#8, 0#8, 0#8, 0#8, 0#8, 0#8, 0#8, 0#8, 0#8, 0#8, 0#8] =
      some
        { addr := ['0', '0', '0', '0', '1', '0']
          pairs := [['4', '4'], ['4', '1'], ['5', '6'], ['4', '5']] ++ List.replicate 12 ['0', '0']
          glyphs := [0x44#8, 0x41#8, 0x56#8, 0x45#8] ++ List.replicate 12 0#8 } := by decide

/-- V63, V65, V66. -/
theorem test_format_row_edges :
    (formatRow 0xABCDEF (0xA0#8 :: 0x0A#8 :: List.replicate 14 0xFF#8)).map (fun r => (r.addr, r.pairs.take 3)) =
      some (['A', 'B', 'C', 'D', 'E', 'F'], [['A', '0'], ['0', 'A'], ['F', 'F']]) ∧
    (formatRow 0x1000010 (List.replicate 16 0#8)).map (·.addr) = some ['0', '0', '0', '0', '1', '0'] ∧
    formatRow 0 (List.replicate 15 0#8) = none ∧ formatRow 0 (List.replicate 17 0#8) = none := by decide

/-! ### For every statement with hypotheses: a state and operands that meet them -/

theorem bench_ready (b : BusState) (h : b ≠ .dataWrite) : (bench b).ReadyForPrimitive := by
  cases b
  · exact ⟨⟨by decide, rfl⟩, rfl⟩
  · exact ⟨⟨by decide, rfl⟩, rfl⟩
  · exact ⟨⟨by decide, rfl⟩, rfl⟩
  · exact ⟨⟨by decide, rfl⟩, rfl⟩
  · exact absurd rfl h

/-- The premises of 70_reset_and_hazards.md R230 hold together, in every boundary state of the bench. -/
theorem bench_premises (b : BusState) (h : b ≠ .dataWrite) :
    (bench b).atBoundary = true ∧ (bench b).inv = true ∧ (bench b).NoFault ∧ (bench b).TimingOK ∧ (bench b).Selected ∧
    (bench b).EnvOK ∧ (bench b).inReset = false ∧ (bench b).cfg.wellFormed = true := by
  cases b
  · exact ⟨by decide, by decide, rfl, rfl, rfl, rfl, rfl, rfl⟩
  · exact ⟨by decide, by decide, rfl, rfl, rfl, rfl, rfl, rfl⟩
  · exact ⟨by decide, by decide, rfl, rfl, rfl, rfl, rfl, rfl⟩
  · exact ⟨by decide, by decide, rfl, rfl, rfl, rfl, rfl, rfl⟩
  · exact absurd rfl h

theorem witness_DecodeOfEncode : (Instr.writeByte 0xFFFFFFFF#32 0xFF#8).wellFormed = true := rfl

theorem witness_EncodeOfDecode : decodeWord 0x1AB00000042#44 = .ok (.readByte 0x42#32) := rfl

theorem witness_OpcodeAloneSelects :
    decodeWord 0x2FFFFFFFFFF#44 = .ok (.writeByte 0xFFFFFFFF#32 0xFF#8) ∧ decodeWord 0x8FFFFFFFFFF#44 = .ok .prepAddr := ⟨rfl, rfl⟩

/-- Two words of DRIVE that differ in `DATA` alone; from `Idle` both fault, from `AddressDrive` both run. -/
theorem witness_IgnoredFieldsChangeNothing :
    decodeWord 0x9FF00000123#44 = .ok (.drive 0x123#32) ∧
    0x9FF00000123#44 &&& (opMask ||| (Instr.drive 0x123#32).readMask) =
      0x90000000123#44 &&& (opMask ||| (Instr.drive 0x123#32).readMask) ∧
    State.reset.fault = none ∧
    holds (fun t => decide (t.fault = some .busTimingViolation) && decide (t.faultCw = 0x9FF00000123#44)) (State.reset.issue 0x9FF00000123#44) = true ∧
    holds (fun t => decide (t.curData = 0xFF#8) && decide (t.fault = none)) ((bench .addressDrive).issue 0x9FF00000123#44) = true :=
  ⟨rfl, by decide, rfl, by decide, by decide⟩

/-- The two ends of the reserved range. -/
theorem witness_ReservedOpcodesFault :
    (opField 0x30000000000#44).toNat = 3 ∧ (opField 0x7FFFFFFFFFF#44).toNat = 7 ∧ State.reset.fault = none := ⟨rfl, rfl, rfl⟩

theorem witness_NarrowInterface :
    (opField 0x80000000000#44).toNat = 8 ∧ (opField 0xFFFFFFFFFFF#44).toNat = 15 ∧ narrow.cfg.primEn = false ∧ narrow.fault = none ∧
    Instr.acceptedBy narrow.cfg (.readByte 0x42#32) = true ∧
    holds (fun t => decide (t.fault = none)) (narrow.issue 0x10000000042#44) = true ∧
    Instr.acceptedBy State.reset.cfg (.drive 0x123#32) = true ∧ decodeWord 0x90000000123#44 = .ok (.drive 0x123#32) ∧
    precondition (.drive 0x123#32) State.reset = false := ⟨rfl, rfl, rfl, rfl, rfl, by decide, rfl, rfl, rfl⟩

theorem witness_StepRunsDecodedCommand :
    let s : State := { State.reset with moves := [.command 0x10000000042#44] }
    s.inReset = false ∧ s.busy = false ∧ s.moves = .command 0x10000000042#44 :: [] ∧
    decodeWord 0x10000000042#44 = .ok (.readByte 0x42#32) := ⟨rfl, rfl, rfl, rfl⟩

theorem witness_FetchWordRunsNext : decodeTableWord 44 0xFFFFFFFFFFF = some .busIdle := rfl

theorem witness_PinsHoldBetweenCommands :
    State.reset.inReset = false ∧ State.reset.busy = false ∧ State.reset.moves = [] ∧
    ({ State.reset with moves := [.pause] } : State).moves = .pause :: [] := ⟨rfl, rfl, rfl, rfl⟩

theorem witness_RefusedAfterFault : faulted.fault = some .busTimingViolation := rfl

theorem witness_FirstFaultWins :
    let s : State := { faulted with moves := [.command 0x30000000000#44] }
    s.fault = some .busTimingViolation ∧ (∀ m ∈ s.moves, m.keepsOutOfReset = true) ∧ ∃ t, step s = .next t :=
  ⟨rfl, by decide, ⟨_, rfl⟩⟩

/-- Both faults can be taken. -/
theorem witness_FaultEntry :
    State.reset.fault = none ∧ State.reset.atBoundary = true ∧
    holds (fun t => decide (t.fault = some .busTimingViolation)) (State.reset.issue 0x90000000123#44) = true ∧
    holds (fun t => decide (t.fault = some .illegalCommand)) (State.reset.issue 0x30000000000#44) = true :=
  ⟨rfl, by decide, by decide, by decide⟩

theorem witness_CheckOrder :
    faulted.fault = some .busTimingViolation ∧
    (State.reset.fault = none ∧ decodeWord 0x30000000000#44 = .error (.reservedOp 3#4)) ∧
    (decodeWord 0xB0000000000#44 = .ok .sample ∧ Instr.acceptedBy (bench .addressDrive).cfg .sample = true ∧
      precondition .sample (bench .addressDrive) = false) ∧
    (precondition .sample (bench .idle) = true ∧ holds (fun t => decide (t.fault = none)) ((bench .idle).issue 0xB0000000000#44) = true) :=
  ⟨rfl, ⟨rfl, rfl⟩, ⟨rfl, rfl, rfl⟩, rfl, by decide⟩

/-- Each of the three preconditions fails somewhere, and holds somewhere. -/
theorem witness_ViolationExactlyWhen :
    State.reset.fault = none ∧ (bench .addressLatched).fault = none ∧ Instr.acceptedBy State.reset.cfg (.latchAddr 0x42#32) = true ∧
    decodeWord 0x90000000123#44 = .ok (.drive 0x123#32) ∧ State.reset.dir ≠ .output ∧ (bench .addressDrive).dir = .output ∧
    decodeWord 0xB0000000000#44 = .ok .sample ∧ (bench .addressLatched).dir ≠ .input ∧
    decodeWord 0xD0000000042#44 = .ok (.latchAddr 0x42#32) ∧ (bench .addressLatched).bus ≠ .addressDrive :=
  ⟨rfl, rfl, rfl, rfl, by decide, rfl, rfl, by decide, rfl, by decide⟩

theorem witness_LegalityTable :
    (bench .addressLatched).ReadyForPrimitive ∧ legalAt (.drive 0#32) (bench .addressLatched).bus = true ∧
    legalAt (.latchAddr 0#32) (bench .addressLatched).bus = false :=
  ⟨bench_ready _ (by decide), rfl, rfl⟩

theorem witness_AccessesNeverFault :
    (bench .dataRead).atBoundary = true ∧ (bench .dataRead).NoFault ∧
    ∀ w ∈ [0x10000000042#44, 0x25A00000010#44, 0x00000000000#44], ∃ i, decodeWord w = .ok i ∧ i.isPrimitive = false := by
  refine ⟨by decide, rfl, ?_⟩
  simp only [List.mem_cons, List.not_mem_nil, or_false, forall_eq_or_imp, forall_eq]
  exact ⟨⟨_, rfl, rfl⟩, ⟨_, rfl, rfl⟩, ⟨_, rfl, rfl⟩⟩

theorem witness_NopAnswersOnly : (bench .dataRead).NoFault := rfl

theorem witness_DelayWaitsOnly : (bench .dataRead).ReadyForPrimitive := bench_ready _ (by decide)

theorem witness_PrepAddrTurnsLinesOut : (bench .dataRead).ReadyForPrimitive := bench_ready _ (by decide)

/-- Both cases of the validity clock. -/
theorem witness_PrepReadEnablesDevice :
    ((bench .dataRead).ReadyForPrimitive ∧ (bench .dataRead).doe = true) ∧
    (bench .addressLatched).ReadyForPrimitive ∧ (bench .addressLatched).doe = false :=
  ⟨⟨bench_ready _ (by decide), rfl⟩, bench_ready _ (by decide), rfl⟩

theorem witness_BusIdleReleasesLines : (bench .addressDrive).ReadyForPrimitive := bench_ready _ (by decide)

theorem witness_DriveWritesLines : (bench .addressLatched).ReadyForPrimitive ∧ (bench .addressLatched).dir = .output :=
  ⟨bench_ready _ (by decide), rfl⟩

/-- With the device's data valid, at exactly three units; and with it not valid, at two. -/
theorem witness_SampleReadsLines :
    (bench .dataRead).ReadyForPrimitive ∧ (bench .dataRead).dir = .input ∧ (bench .dataRead).doe = true ∧ (bench .dataRead).ce = true ∧
    (bench .dataRead).dev.stuck = false ∧ (bench .dataRead).sinceValid = 3 ∧ (bench .dataRead).TimingOK ∧
    (let s : State := { bench .dataRead with sinceValid := 2 }
     s.ReadyForPrimitive ∧ s.dir = .input ∧ s.sinceValid < 3) :=
  ⟨bench_ready _ (by decide), rfl, rfl, rfl, rfl, rfl, rfl, ⟨⟨by decide, rfl⟩, rfl⟩, rfl, by decide⟩

/-- Selected with each reference device, and not selected. -/
theorem witness_PrepWriteStoresByte :
    ((bench .addressLatched).ReadyForPrimitive ∧ (bench .addressLatched).ce = true ∧ (bench .addressLatched).TimingOK ∧
      (bench .addressLatched).dev.kind = .ram) ∧
    (let s : State := { bench .addressLatched with dev := rom }
     s.ReadyForPrimitive ∧ s.ce = true ∧ s.TimingOK ∧ s.dev.kind = .rom) ∧
    (let s : State := { bench .addressLatched with ce := false }
     s.ReadyForPrimitive ∧ s.ce = false) :=
  ⟨⟨bench_ready _ (by decide), rfl, rfl, rfl⟩, ⟨⟨⟨by decide, rfl⟩, rfl⟩, rfl, rfl, rfl⟩, ⟨⟨by decide, rfl⟩, rfl⟩, rfl⟩

theorem witness_LatchAddrLatches :
    (bench .addressDrive).ReadyForPrimitive ∧ (bench .addressDrive).bus = .addressDrive ∧ (bench .addressDrive).TimingOK :=
  ⟨bench_ready _ (by decide), rfl, rfl⟩

theorem witness_ReadByteCompletes : (bench .dataRead).Ready ∧ (bench .dataRead).TimingOK := ⟨(bench_ready _ (by decide)).1, rfl⟩

theorem witness_WriteByteCompletes :
    ((bench .dataRead).Ready ∧ (bench .dataRead).ce = true ∧ (bench .dataRead).TimingOK ∧ (bench .dataRead).dev.kind = .ram) ∧
    (let s : State := { bench .idle with dev := rom }
     s.Ready ∧ s.ce = true ∧ s.TimingOK ∧ s.dev.kind = .rom) ∧
    (let s : State := { bench .idle with ce := false }
     s.Ready ∧ s.ce = false) :=
  ⟨⟨(bench_ready _ (by decide)).1, rfl, rfl, rfl⟩, ⟨⟨by decide, rfl⟩, rfl, rfl, rfl⟩, ⟨by decide, rfl⟩, rfl⟩

theorem witness_ReadReturnsDeviceByte :
    (bench .addressDrive).Ready ∧ (bench .addressDrive).Selected ∧ (bench .addressDrive).TimingOK ∧ (bench .addressDrive).EnvOK :=
  ⟨(bench_ready _ (by decide)).1, rfl, rfl, rfl⟩

/-- Not selected; stuck. -/
theorem witness_ReadOfDeadDeviceCompletes :
    (let s : State := { bench .idle with ce := false }
     s.Ready ∧ (s.ce = false ∨ s.dev.stuck = true) ∧ s.TimingOK) ∧
    (let s : State := { bench .idle with dev := { ram with stuck := true } }
     s.Ready ∧ (s.ce = false ∨ s.dev.stuck = true) ∧ s.TimingOK) :=
  ⟨⟨⟨by decide, rfl⟩, .inl rfl, rfl⟩, ⟨by decide, rfl⟩, .inr rfl, rfl⟩

/-- Two histories: different `out_val`, `rd_val`, `dev_alatch` and bus state. -/
theorem witness_ReadIndependentOfHistory :
    let u : State := { bench .addressLatched with outVal := 0x12345#20, rdVal := 0xFFFFF#20, devAlatch := 0x00007#20 }
    (bench .dataRead).Ready ∧ u.Ready ∧ (bench .dataRead).cfg = u.cfg ∧ (bench .dataRead).ce = u.ce ∧
    (bench .dataRead).dev = u.dev ∧ (bench .dataRead).draws = u.draws :=
  ⟨(bench_ready _ (by decide)).1, ⟨by decide, rfl⟩, rfl, rfl, rfl, rfl⟩

/-- Both clauses at their meeting point: two units and three. -/
theorem witness_SampleValidAfterThreeUnits :
    (bench .addressLatched).ReadyForPrimitive ∧ (bench .addressLatched).doe = false ∧ (bench .addressLatched).Selected ∧
    (bench .addressLatched).TimingOK ∧ (bench .addressLatched).EnvOK ∧
    ([DelayClass.short, .short].map delayUnits).sum = 2 ∧ ([DelayClass.long].map delayUnits).sum = 3 :=
  ⟨bench_ready _ (by decide), rfl, rfl, rfl, rfl, rfl, rfl⟩

theorem witness_RamReadAfterWrite :
    (bench .idle).Ready ∧ (bench .idle).Selected ∧ (bench .idle).TimingOK ∧ (bench .idle).EnvOK ∧ (bench .idle).dev.kind = .ram :=
  ⟨(bench_ready _ (by decide)).1, rfl, rfl, rfl, rfl⟩

/-- `0x00042` and `0xFFF00042`; each of the four commands answers a next state with no fault, with the masked address on the lines. -/
theorem witness_AddressMasking :
    (0x00000042#32).extractLsb' 0 20 = (0xFFF00042#32).extractLsb' 0 20 ∧
    holds (fun t => decide (t.fault = none) && decide (t.trace[1]? = some (.drive 0x00042#20)))
      ((bench .addressDrive).issue (encode (.latchAddr 0xFFF00042#32))) = true ∧
    holds (fun t => decide (t.fault = none) && decide (t.trace[0]? = some (.drive 0x00042#20)))
      ((bench .addressDrive).issue (encode (.drive 0xFFF00042#32))) = true ∧
    holds (fun t => decide (t.fault = none) && decide (t.trace[3]? = some (.drive 0x00042#20)))
      ((bench .addressDrive).issue (encode (.readByte 0xFFF00042#32))) = true ∧
    holds (fun t => decide (t.fault = none) && decide (t.trace[3]? = some (.drive 0x00042#20)))
      ((bench .addressDrive).issue (encode (.writeByte 0xFFF00042#32 0x5A#8))) = true := by decide

/-- LATCH_ADDR's end state, and later events that move the lines without opening the latch. -/
theorem witness_LatchHoldsAddress :
    (bench .addressDrive).ReadyForPrimitive ∧ (bench .addressDrive).bus = .addressDrive ∧ (bench .addressDrive).TimingOK ∧
    (∀ m ∈ prepWriteSteps 0x5A#8, m.action ≠ .setAle .transparent) ∧
    holds (fun u => decide (u.devAlatch = 0x00042#20)) (runSteps (prepWriteSteps 0x5A#8) (bench .addressLatched)) = true :=
  ⟨bench_ready _ (by decide), rfl, rfl, by decide, by decide⟩

theorem witness_AccessTraces : (bench .addressLatched).Ready := (bench_ready _ (by decide)).1

theorem witness_AccessesAreLayered :
    (bench .dataRead).ReadyForPrimitive ∧ (bench .dataRead).busy = false ∧ (bench .dataRead).ustep = 0 ∧
    Instr.isPrimitive (.latchAddr 0#32) = true ∧ (⟨.wait 1, .keep, none⟩ : MicroStep) ∈ microSteps (.latchAddr 0#32) :=
  ⟨bench_ready _ (by decide), rfl, rfl, rfl, by decide⟩

/-- PREP_WRITE's u2 and PREP_READ's u2. -/
theorem witness_DisableBeforeDrive :
    microSteps (.prepWrite 0x5A#8) = [⟨.setDoe false, .idleIfDataRead, none⟩] ++ ⟨.setDir .output, .become .dataWrite, none⟩ ::
      (prepWriteSteps 0x5A#8).drop 2 ∧
    microSteps .prepRead = [⟨.setDir .input, .idleIfOutputDisabled, none⟩] ++ ⟨.setDoe true, .become .dataRead, none⟩ :: [] :=
  ⟨rfl, rfl⟩

/-- A micro-step for each of the six clauses. -/
theorem witness_WhoWritesWhichLine :
    (⟨.setWe true, .keep, none⟩ : MicroStep) ∈ microSteps (.prepWrite 0x5A#8) ∧
    (⟨.setAle .transparent, .keep, none⟩ : MicroStep) ∈ microSteps (.readByte 0x42#32) ∧
    (⟨.setDoe true, .become .dataRead, none⟩ : MicroStep) ∈ microSteps .prepRead ∧
    (⟨.setDir .input, .become .idle, none⟩ : MicroStep) ∈ microSteps .busIdle ∧
    (⟨.drive 0x42#20, .keep, none⟩ : MicroStep) ∈ microSteps (.latchAddr 0x42#32) ∧
    (⟨.sample, .keep, none⟩ : MicroStep) ∈ microSteps (.readByte 0x42#32) := by decide

theorem witness_OwnerAfterEachMicroStep :
    (bench .dataRead).pinsAtRest = true ∧ (bench .addressDrive).pinsAtRest = true ∧ (bench .addressDrive).bus = .addressDrive := by decide

/-- The write pulse and the open latch are seen at cycles of a run, and a command is over at another. -/
theorem witness_PinTableAtEveryCycle :
    (bench .dataRead).atBoundary = true ∧
    holds (fun t => t.we) (runClock (⟨true, true, 0xC5A00000000#44⟩ :: List.replicate 4 ⟨true, false, 0#44⟩) (bench .dataRead)) = true ∧
    holds (fun t => decide (t.ale = .transparent)) (runClock (⟨true, true, 0xD0000000042#44⟩ :: [⟨true, false, 0#44⟩]) (bench .addressDrive)) = true := by
  decide

theorem witness_StepKeepsBoundary : State.reset.inv = true ∧ (State.reset.withFetchWord 44 0x80000000000).inv = true := by decide

theorem witness_ResetIsBoundary : Memory.wf ram.known = true := by decide

theorem witness_LatchSequencesOnly :
    let s : State := { bench .idle with moves := [.command 0x10000000042#44] }
    s.inv = true ∧ (∀ m ∈ s.moves, m.keepsOutOfReset = true) ∧ latchSequenced s.trace = true ∧
    holds (fun t => decide (t.trace.length = 12)) (step s) = true := by decide

theorem witness_ResetFromAnyState : (⟨false, true, 0#44⟩ : PortsIn).rstN = false ∧ (⟨true, false, 0#44⟩ : PortsIn).rstN = true := ⟨rfl, rfl⟩

/-- Cut inside the write pulse, and outside one. -/
theorem witness_ResetAbandonsCommand :
    (bench .addressLatched).atBoundary = true ∧
    holds (fun u => u.we) (runSteps ((prepWriteSteps 0x5A#8).take 4) (bench .addressLatched)) = true ∧
    holds (fun u => !u.we) (runSteps ((prepWriteSteps 0x5A#8).take 3) (bench .addressLatched)) = true := by decide

/-- DELAY LONG accepted with `N_SHORT = 4`: twelve cycles. -/
theorem witness_WaitCountsDown :
    let s : State := State.accept 0xE0000000001#44 { State.reset with cfg := { Config.reference with nShort := 4 } }
    s.busy = true ∧ s.inReset = false ∧ s.contention = false ∧ s.dlyCnt = 0 ∧
    s.pending = [⟨.wait 3, .keep, none⟩] ∧ 1 ≤ 3 * s.cfg.nShort ∧
    (∀ p ∈ List.replicate 12 (⟨true, false, 0#44⟩ : PortsIn), p.rstN = true) ∧ 3 * s.cfg.nShort = 12 := by decide

/-- READ_BYTE: fourteen cycles and the response's. -/
theorem witness_ClockRunsCommand :
    State.reset.atBoundary = true ∧ State.reset.inReset = false ∧ State.reset.cfg.wellFormed = true ∧
    (∀ p ∈ List.replicate 15 (⟨true, false, 0#44⟩ : PortsIn), p.rstN = true) ∧
    15 = listCycles State.reset.cfg.nShort (State.reset.admitWord 0x10000000042#44).pending + 1 := by decide

theorem witness_DurationTable : (State.reset.admitWord 0x90000000123#44).fault ≠ none := by decide

theorem witness_BusyIgnoresHost :
    (State.reset.accept 0x10000000042#44).busy = true ∧ (State.reset.accept 0x10000000042#44).inReset = false ∧
    State.reset.ports.cmdReady = true := by decide

/-- A response cycle with status `OK`, one with a fault, and the three ways of having none: idle, in reset, in a micro-step. -/
theorem witness_PortsReport :
    (State.reset.accept 0x00000000000#44).responding = true ∧ (faulted.accept 0x00000000000#44).responding = true ∧
    State.reset.responding = false ∧
    ({ State.reset.accept 0x00000000000#44 with inReset := true } : State).responding = false ∧
    (State.reset.accept 0x10000000042#44).responding = false ∧ (⟨true, false, 0#44⟩ : PortsIn).rstN = true := by decide

/-- S3's sequence matches, S4's first differs at 2. -/
theorem witness_VerifyStopsAtFirstDifference :
    let s : State := { bench .idle with dev := rom }
    s.atBoundary = true ∧ s.NoFault ∧ s.Selected ∧ s.TimingOK ∧ s.EnvOK ∧
    ((List.range 3).map fun i => s.dev.read (deviceAddress (BitVec.ofNat 32 (0x100 + i)))) = [0x01#8, 0x02#8, 0x05#8] :=
  ⟨by decide, rfl, rfl, rfl, rfl, rfl⟩

theorem witness_ChunkingHasNoEffect : 1 ≤ State.reset.cfg.chunk := by decide

theorem witness_FormatRowDigits : (List.replicate 16 (0#8 : Byte)).length = 16 ∧ (List.replicate 15 (0#8 : Byte)).length ≠ 16 := by decide

end Sys2Proof.Machine.Tests
end

section
/-! PROOFS. What each pin action makes of the pin fields, and the runs of micro-steps along which the table of 10_state.md R12 holds. -/

namespace Sys2Proof.Machine

/-! ### The pin fields after a pin action -/

@[simp] theorem State.follow_pins (s : State) :
    s.follow.dir = s.dir ∧ s.follow.doe = s.doe ∧ s.follow.we = s.we ∧ s.follow.ale = s.ale ∧ s.follow.dlyCnt = s.dlyCnt := by
  unfold State.follow
  split <;> simp

@[simp] theorem State.freeze_pins (s : State) :
    s.freeze.dir = s.dir ∧ s.freeze.doe = s.doe ∧ s.freeze.we = s.we ∧ s.freeze.dlyCnt = s.dlyCnt := by
  unfold State.freeze
  split
  · simp
  · split <;> simp

@[simp] theorem State.endPulse_pins (s : State) :
    s.endPulse.dir = s.dir ∧ s.endPulse.doe = s.doe ∧ s.endPulse.ale = s.ale ∧ s.endPulse.dlyCnt = s.dlyCnt := by
  unfold State.endPulse
  repeat' split
  all_goals simp

@[simp] theorem State.setDoe_pins (b : Bool) (s : State) :
    (s.setDoe b).bus = s.bus ∧ (s.setDoe b).phase = s.phase ∧ (s.setDoe b).dir = s.dir ∧ (s.setDoe b).doe = b ∧
      (s.setDoe b).we = s.we ∧ (s.setDoe b).ale = s.ale ∧ (s.setDoe b).dlyCnt = s.dlyCnt := by
  simp [State.setDoe]

@[simp] theorem State.setDir_pins (d : Direction) (s : State) :
    (s.setDir d).bus = s.bus ∧ (s.setDir d).phase = s.phase ∧ (s.setDir d).dir = d ∧ (s.setDir d).doe = s.doe ∧
      (s.setDir d).we = s.we ∧ (s.setDir d).ale = s.ale ∧ (s.setDir d).dlyCnt = s.dlyCnt := by
  simp [State.setDir]

@[simp] theorem State.setAle_pins (l : LatchLevel) (s : State) :
    (s.setAle l).bus = s.bus ∧ (s.setAle l).phase = s.phase ∧ (s.setAle l).dir = s.dir ∧ (s.setAle l).doe = s.doe ∧
      (s.setAle l).we = s.we ∧ (s.setAle l).ale = l ∧ (s.setAle l).dlyCnt = s.dlyCnt := by
  cases l <;> simp [State.setAle]

@[simp] theorem State.setWe_pins (b : Bool) (s : State) :
    (s.setWe b).bus = s.bus ∧ (s.setWe b).phase = s.phase ∧ (s.setWe b).dir = s.dir ∧ (s.setWe b).doe = s.doe ∧
      (s.setWe b).we = b ∧ (s.setWe b).ale = s.ale ∧ (s.setWe b).dlyCnt = s.dlyCnt := by
  cases b <;> simp [State.setWe]

@[simp] theorem State.drive_pins (v : Lines) (s : State) :
    (s.drive v).bus = s.bus ∧ (s.drive v).phase = s.phase ∧ (s.drive v).dir = s.dir ∧ (s.drive v).doe = s.doe ∧
      (s.drive v).we = s.we ∧ (s.drive v).ale = s.ale ∧ (s.drive v).dlyCnt = s.dlyCnt := by
  simp [State.drive]

@[simp] theorem State.wait_pins (k : Nat) (s : State) :
    (s.wait k).bus = s.bus ∧ (s.wait k).phase = s.phase ∧ (s.wait k).dir = s.dir ∧ (s.wait k).doe = s.doe ∧
      (s.wait k).we = s.we ∧ (s.wait k).ale = s.ale ∧ (s.wait k).dlyCnt = 0 := by
  simp [State.wait]

@[simp] theorem State.sample_pins (s : State) :
    s.sample.bus = s.bus ∧ s.sample.phase = s.phase ∧ s.sample.dir = s.dir ∧ s.sample.doe = s.doe ∧
      s.sample.we = s.we ∧ s.sample.ale = s.ale ∧ s.sample.dlyCnt = s.dlyCnt := by
  simp [State.sample]

/-! ### The table of bus and pins -/

theorem State.busTable_of_pinsAtRest {s : State} (h : s.pinsAtRest = true) : s.busTable = true := by
  simp only [State.pinsAtRest, Bool.and_eq_true] at h
  simp [h]

/-- Every row of the table has the controller's lines as inputs or the device's output disabled (10_state.md R24). -/
theorem State.not_contention_of_busTable {s : State} (h : s.busTable = true) : s.contention = false := by
  cases hb : s.bus <;> simp_all [State.busTable, State.contention]

/-- Only the row `DataWrite` leaves `we` open (10_state.md R25). -/
theorem State.busTable_of_we {s : State} (h : s.busTable = true) (hw : s.we = true) :
    s.dir = .output ∧ s.doe = false ∧ s.bus = .dataWrite := by
  cases hb : s.bus <;> simp_all [State.busTable]

/-- Only the row `AddressDrive` leaves `ale` open (10_state.md R26). -/
theorem State.busTable_of_transparent {s : State} (h : s.busTable = true) (ha : s.ale = .transparent) :
    s.dir = .output ∧ s.doe = false ∧ s.bus = .addressDrive := by
  cases hb : s.bus <;> simp_all [State.busTable]

/-- The table holds before each micro-step of the list, and at its end the pins are at rest. -/
def TableRun : List MicroStep → State → Prop
  | [], s => s.pinsAtRest = true
  | m :: ms, s => s.busTable = true ∧ TableRun ms (s.microStep m)

theorem TableRun.busTable {ms : List MicroStep} {s : State} (h : TableRun ms s) : s.busTable = true := by
  cases ms with
  | nil => exact State.busTable_of_pinsAtRest h
  | cons m ms => exact h.1

theorem TableRun.runSteps {ms : List MicroStep} {s : State} (h : TableRun ms s) :
    ∃ t, Machine.runSteps ms s = .next t ∧ t.pinsAtRest = true := by
  induction ms generalizing s with
  | nil => exact ⟨s, rfl, h⟩
  | cons m ms ih =>
    obtain ⟨-, hrest⟩ := h
    simpa [Machine.runSteps, State.not_contention_of_busTable hrest.busTable] using ih hrest

/-- A run that the table holds along can be cut anywhere. -/
theorem TableRun.runSteps_take {ms : List MicroStep} {s : State} (h : TableRun ms s) (n : Nat) :
    ∃ t, Machine.runSteps (ms.take n) s = .next t := by
  obtain ⟨u, hu, -⟩ := h.runSteps
  rw [← List.take_append_drop n ms, runSteps_append] at hu
  cases ht : Machine.runSteps (ms.take n) s with
  | next t => exact ⟨t, rfl⟩
  | fault r => simp [ht] at hu
  | refused r => simp [ht] at hu

/-- The one micro-step of DRIVE, DELAY and SAMPLE moves no control line, so pins at rest stay so. -/
theorem tableRun_singleton_of_no_control_line {a : PinAction} {s : State} (h : s.pinsAtRest = true)
    (ha : (∃ v, a = .drive v) ∨ (∃ k, a = .wait k) ∨ a = .sample) : TableRun [⟨a, .keep, none⟩] s := by
  refine ⟨State.busTable_of_pinsAtRest h, ?_⟩
  rcases ha with ⟨v, rfl⟩ | ⟨k, rfl⟩ | rfl <;>
    simpa [TableRun, State.pinsAtRest_iff, State.act, BusRule.apply, (s.pinsAtRest_iff.1 h).1] using h

/-- From pins at rest that meet its precondition, every command keeps the table at each micro-step and ends with the pins at rest
(10_state.md R12, R27). -/
theorem tableRun_microSteps {i : Instr} {s : State} (h : s.pinsAtRest = true) (hp : precondition i s = true) :
    TableRun (microSteps i) s := by
  obtain ⟨hdly, hphase, hwe, hale, hbus⟩ := s.pinsAtRest_iff.1 h
  cases i with
  | nop => exact h
  | drive a => exact tableRun_singleton_of_no_control_line h (.inl ⟨_, rfl⟩)
  | delay cls => exact tableRun_singleton_of_no_control_line h (.inr (.inl ⟨_, rfl⟩))
  | sample => exact tableRun_singleton_of_no_control_line h (.inr (.inr rfl))
  | latchAddr a =>
    have hb : s.bus = .addressDrive := of_decide_eq_true hp
    simp only [hb, reduceCtorEq, false_and, true_and, or_false, false_or] at hbus
    simp [microSteps, latchAddrSteps, TableRun, State.busTable, State.pinsAtRest, State.act, BusRule.apply,
      hphase, hwe, hb, hbus]
  | prepAddr | prepRead | prepWrite _ | busIdle | readByte _ | writeByte _ _ =>
    rcases hbus with ⟨hb, hd, ho⟩ | ⟨hb, hd, ho⟩ | ⟨hb, hd, ho⟩ | ⟨hb, hd, ho⟩ <;>
      simp [microSteps, prepAddrSteps, prepReadSteps, prepWriteSteps, busIdleSteps, readByteSteps, writeByteSteps, addressSteps,
        latchAddrSteps, delaySteps, sampleSteps, enterAtFirst, enterAtLast, TableRun, State.busTable, State.pinsAtRest,
        State.act, BusRule.apply, hdly, hphase, hwe, hale, hb, hd, ho]

end Sys2Proof.Machine
end

section
/-! PROOFS. A command word from its acceptance to its response: what admission writes, which micro-steps are to come,
and that a command in one step is the admitted command finished. -/

namespace Sys2Proof.Machine

/-! ### Acceptance -/

/-- Taking a fault writes the fault record and nothing else (60_exceptions.md R186). -/
theorem State.raise_eq (x : BlockFault) (s : State) :
    s.raise x = { s with fault := (s.raise x).fault, faultCw := (s.raise x).faultCw } := by
  unfold State.raise
  split <;> rfl

theorem State.raise_fault_ne_none (x : BlockFault) (s : State) : (s.raise x).fault ≠ none := by
  unfold State.raise
  split <;> simp_all

/-- The checks write the fault record and nothing else (60_exceptions.md R185). -/
theorem State.runChecks_eq (p q : Bool) (s : State) :
    s.runChecks p q = { s with fault := (s.runChecks p q).fault, faultCw := (s.runChecks p q).faultCw } := by
  unfold State.runChecks
  split
  · rfl
  · split
    · exact State.raise_eq _ _
    · split
      · rfl
      · exact State.raise_eq _ _

/-- A command that passes its checks changed nothing in them, and its precondition holds (60_exceptions.md R185). -/
theorem State.runChecks_passed {p q : Bool} {s : State} (h : (s.runChecks p q).fault = none) :
    s.runChecks p q = s ∧ q = true := by
  unfold State.runChecks at h ⊢
  split at h
  · simp_all
  · split at h
    · exact absurd h (State.raise_fault_ne_none _ _)
    · split at h
      · simp_all
      · exact absurd h (State.raise_fault_ne_none _ _)

/-- Admission is acceptance with the fault record written by the checks. -/
theorem State.admitWord_eq (w : CmdWord) (s : State) :
    s.admitWord w = { s.accept w with fault := (s.admitWord w).fault, faultCw := (s.admitWord w).faultCw } := by
  unfold State.admitWord
  split
  · exact State.runChecks_eq _ _ _
  · exact State.raise_eq _ _

@[simp] theorem State.admitWord_frame (w : CmdWord) (s : State) :
    (s.admitWord w).busy = true ∧ (s.admitWord w).ustep = 1 ∧ (s.admitWord w).inReset = s.inReset ∧
      (s.admitWord w).cmdWord = w ∧ (s.admitWord w).pinsAtRest = s.pinsAtRest ∧ (s.admitWord w).deviceWf = s.deviceWf ∧
      (s.admitWord w).ceConstant = s.ceConstant := by
  rw [State.admitWord_eq]
  exact ⟨rfl, rfl, rfl, packWord_fields w, rfl, rfl, rfl⟩

/-! ### The micro-steps to come, and the response -/

theorem State.pending_of_fault {s : State} {f : BlockFault} (h : s.fault = some f) : s.pending = [] := by
  simp [State.pending, h]

theorem State.pending_of_error {s : State} {e : DecodeError} (h : decodeWord s.cmdWord = .error e) : s.pending = [] := by
  unfold State.pending
  split <;> simp [h]

theorem State.pending_of_ok {s : State} {i : Instr} (hf : s.fault = none) (h : decodeWord s.cmdWord = .ok i) :
    s.pending = (microSteps i).drop (s.ustep - 1) := by
  simp [State.pending, hf, h]

theorem State.finish_of_fault {s : State} {f : BlockFault} (h : s.fault = some f) : s.finish = s.answer f.status 0#20 := by
  simp [State.finish, State.response, h]

theorem State.finish_of_ok {s : State} {i : Instr} (hf : s.fault = none) (h : decodeWord s.cmdWord = .ok i) :
    s.finish = s.answer .ok (resultValue i s) := by
  simp [State.finish, State.response, hf, h]

theorem State.resume_of_fault {s : State} {f : BlockFault} (h : s.fault = some f) :
    s.resume = .next (s.answer f.status 0#20) := by
  simp [State.resume, State.pending_of_fault h, runSteps, State.finish_of_fault h]

/-- A micro-step takes itself off the micro-steps to come (10_state.md R20). -/
theorem State.pending_microStep {s : State} {m : MicroStep} {ms : List MicroStep} (hu : 1 ≤ s.ustep)
    (h : s.pending = m :: ms) : (s.microStep m).pending = ms := by
  cases hf : s.fault with
  | some f => simp [State.pending_of_fault hf] at h
  | none =>
    cases hd : decodeWord s.cmdWord with
    | error e => simp [State.pending_of_error hd] at h
    | ok i =>
      have hd' : decodeWord (s.microStep m).cmdWord = .ok i := by simpa [State.cmdWord] using hd
      rw [State.pending_of_ok hf hd] at h
      have hu' : s.ustep + 1 - 1 = s.ustep - 1 + 1 := by omega
      rw [State.pending_of_ok (by simpa using hf) hd', State.microStep_ustep, hu', ← List.tail_drop, h, List.tail_cons]

theorem State.admitWord_reserved {w : CmdWord} {e : DecodeError} (h : decodeWord w = .error e) (s : State) :
    s.admitWord w = (s.accept w).raise .illegalCommand := by
  simp [State.admitWord, h]

theorem State.admitWord_decoded {w : CmdWord} {i : Instr} (h : decodeWord w = .ok i) (s : State) :
    s.admitWord w = (s.accept w).runChecks i.isPrimitive (precondition i (s.accept w)) := by
  simp [State.admitWord, h]

theorem State.performReserved_eq_resume (s : State) :
    .next s.performReserved = (s.raise .illegalCommand).resume := by
  cases hf : s.fault with
  | none =>
    have hraised : (s.raise .illegalCommand).fault = some .illegalCommand := by rw [State.raise_none hf]
    rw [State.resume_of_fault hraised]
    simp [State.performReserved, hf, BlockFault.status]
  | some f =>
    rw [State.raise_some hf, State.resume_of_fault hf]
    simp [State.performReserved, hf]

/-- A command in one step is its admission and the rest of the command in progress: the two ways the model runs a command agree. -/
theorem State.issue_eq_resume (w : CmdWord) (s : State) : s.issue w = (s.admitWord w).resume := by
  cases hd : decodeWord w with
  | error e => rw [State.issue_error hd, State.admitWord_reserved hd, State.performReserved_eq_resume]
  | ok i =>
    rw [State.issue_ok hd]
    obtain ⟨-, hustep, -, hword, -⟩ := s.admitWord_frame w
    have hd' : decodeWord (s.admitWord w).cmdWord = .ok i := by rwa [hword]
    simp only [State.perform, ← State.admitWord_decoded hd]
    cases hf : (s.admitWord w).fault with
    | some f => exact (State.resume_of_fault hf).symm
    | none =>
      simp only [State.resume, State.pending_of_ok hf hd', hustep, Nat.sub_self, List.drop_zero]
      cases hr : runSteps (microSteps i) (s.admitWord w) with
      | next t =>
        obtain ⟨-, -, hop, hdata, harg, hfault, -⟩ := runSteps_keeps hr
        have hdt : decodeWord t.cmdWord = .ok i := by rwa [State.cmdWord, hop, hdata, harg]
        simp only [State.finish_of_ok (hfault.trans hf) hdt]
      | fault r => rfl
      | refused r => rfl

/-- From pins at rest, the micro-steps of an admitted word keep the table: it has none, or it met its precondition. -/
theorem State.tableRun_admitWord {s : State} (h : s.pinsAtRest = true) (w : CmdWord) :
    TableRun (s.admitWord w).pending (s.admitWord w) := by
  obtain ⟨-, hustep, -, hword, hrest, -⟩ := s.admitWord_frame w
  rw [h] at hrest
  cases hf : (s.admitWord w).fault with
  | some f => rwa [State.pending_of_fault hf]
  | none =>
    cases hd : decodeWord w with
    | error e => rwa [State.pending_of_error (by rw [hword, hd])]
    | ok i =>
      rw [State.pending_of_ok hf (by rw [hword, hd]), hustep]
      rw [State.admitWord_decoded hd] at hf hrest ⊢
      obtain ⟨hsame, hpre⟩ := State.runChecks_passed hf
      rw [hsame] at hrest ⊢
      exact tableRun_microSteps hrest hpre

end Sys2Proof.Machine
end

section
/-! PROOFS. The boundary after a reset and after a response. -/

namespace Sys2Proof.Machine

/-- Reset puts the block at a boundary, from any state (70_reset_and_hazards.md R210). -/
theorem State.assertReset_atBoundary (s : State) : s.assertReset.atBoundary = true := rfl

theorem State.assertReset_ceConstant (s : State) : s.assertReset.ceConstant = true := by
  have hcfg : s.markAbandoned.resetDevice.cfg = s.cfg := by
    unfold State.resetDevice State.markAbandoned
    split <;> split <;> rfl
  simp [State.ceConstant, State.assertReset, hcfg]

theorem State.assertReset_inv {s : State} (h : s.deviceWf = true) : s.assertReset.inv = true :=
  (State.inv_iff _).2 ⟨s.assertReset_atBoundary, State.assertReset_deviceWf h, s.assertReset_ceConstant⟩

theorem State.finish_atBoundary {s : State} (h : s.pinsAtRest = true) : s.finish.atBoundary = true :=
  (State.atBoundary_iff _).2 ⟨h, rfl, rfl⟩

theorem State.finish_inv {s : State} (h : s.pinsAtRest = true) (hd : s.deviceWf = true) (hc : s.ceConstant = true) :
    s.finish.inv = true :=
  (State.inv_iff _).2 ⟨State.finish_atBoundary h, hd, hc⟩

theorem State.resetWith_inv (c : Config) {d : Device} (h : Memory.wf d.known = true) : (State.resetWith c d).inv = true :=
  (State.inv_iff _).2 ⟨rfl, h, beq_self_eq_true _⟩

theorem runSteps_ceConstant {ms : List MicroStep} {s t : State} (h : runSteps ms s = .next t) :
    t.ceConstant = s.ceConstant := by
  obtain ⟨hcfg, hce, -⟩ := runSteps_keeps h
  simp [State.ceConstant, hcfg, hce]

end Sys2Proof.Machine
end

section
/-! PROOFS. The clock machine from a boundary: one invariant of every edge (10_state.md R12, R24 to R27). -/

namespace Sys2Proof.Machine

/-- A cycle of a command with a micro-step to come: a further cycle of a wait, which counts and moves nothing else, or that micro-step. -/
theorem State.busyCycle_cases {s : State} {m : MicroStep} {ms : List MicroStep} (h : s.pending = m :: ms) :
    (∃ k c, m.action = .wait k ∧ s.busyCycle = .next { s with dlyCnt := c }) ∨ s.busyCycle = s.clockStep m := by
  simp only [State.busyCycle, h]
  cases ha : m.action with
  | wait k =>
    by_cases hc : s.countDown k = 0
    · exact .inr (by simp [hc])
    · exact .inl ⟨k, s.countDown k, rfl, by simp [hc]⟩
  | _ => exact .inr rfl

/-- The invariant of every edge: a boundary state, or a command in progress whose micro-steps to come keep the table and end at rest. -/
inductive ClockInv (s : State) : Prop where
  | idle (boundary : s.atBoundary = true)
  | running (busy : s.busy = true) (out : s.inReset = false) (ustep : 1 ≤ s.ustep) (run : TableRun s.pending s)

theorem ClockInv.admitWord {s : State} (h : s.atBoundary = true) (hr : s.inReset = false) (w : CmdWord) :
    ClockInv (s.admitWord w) := by
  obtain ⟨hrest, -, -⟩ := s.atBoundary_iff.1 h
  obtain ⟨hbusy, hustep, hout, -⟩ := s.admitWord_frame w
  exact .running hbusy (hout.trans hr) hustep.ge (s.tableRun_admitWord hrest w)

theorem ClockInv.busyCycle {s : State} (hbusy : s.busy = true) (hout : s.inReset = false) (hu : 1 ≤ s.ustep)
    (hrun : TableRun s.pending s) : ∃ t, s.busyCycle = .next t ∧ ClockInv t := by
  cases hp : s.pending with
  | nil =>
    rw [hp] at hrun
    exact ⟨s.finish, by simp [State.busyCycle, hp], .idle (State.finish_atBoundary hrun)⟩
  | cons m ms =>
    rw [hp] at hrun
    obtain ⟨hrow, hrest⟩ := hrun
    rcases State.busyCycle_cases hp with ⟨k, c, hm, hc⟩ | hc
    · refine ⟨_, hc, .running hbusy hout hu ?_⟩
      have hpend : ({ s with dlyCnt := c } : State).pending = m :: ms := hp
      have hstep : ({ s with dlyCnt := c } : State).microStep m = s.microStep m := by
        simp [State.microStep, State.act, hm, State.wait, State.emit]
      rw [hpend]
      exact ⟨hrow, by rwa [hstep]⟩
    · refine ⟨s.microStep m, ?_, .running ?_ ?_ (by simp) ?_⟩
      · rw [hc, State.clockStep, State.not_contention_of_busTable hrest.busTable]
        rfl
      · simpa using hbusy
      · simpa using hout
      · rwa [State.pending_microStep hu hp]

theorem ClockInv.tick {s : State} (h : ClockInv s) (p : PortsIn) : ∃ t, tick p s = .next t ∧ ClockInv t := by
  unfold Machine.tick
  split
  · exact ⟨_, rfl, .idle s.assertReset_atBoundary⟩
  · cases h with
    | running hbusy hout hu hrun => simpa [hbusy, hout] using ClockInv.busyCycle hbusy hout hu hrun
    | idle hb =>
      obtain ⟨-, hbusy, -⟩ := s.atBoundary_iff.1 hb
      simp only [hbusy, Bool.false_eq_true, if_false]
      split
      next => exact ⟨_, rfl, .idle hb⟩
      next hout =>
        split
        · exact ⟨_, rfl, .admitWord hb (Bool.eq_false_iff.2 hout) _⟩
        · exact ⟨s, rfl, .idle hb⟩

/-- A predicate that every edge keeps, whatever the input ports, holds after any number of edges, and the clock machine never stops. -/
theorem runClock_induct {P : State → Prop} (hP : ∀ s p, P s → ∃ t, tick p s = .next t ∧ P t) (ps : List PortsIn)
    {s : State} (h : P s) : ∃ t, runClock ps s = .next t ∧ P t := by
  induction ps generalizing s with
  | nil => exact ⟨s, rfl, h⟩
  | cons p ps ih =>
    obtain ⟨u, hu, hPu⟩ := hP s p h
    simpa [runClock, hu] using ih hPu

theorem ClockInv.busTable {s : State} (h : ClockInv s) : s.busTable = true := by
  cases h with
  | idle hb => exact State.busTable_of_pinsAtRest (s.atBoundary_iff.1 hb).1
  | running _ _ _ hrun => exact hrun.busTable

theorem ClockInv.atBoundary {s : State} (h : ClockInv s) (hb : s.busy = false) : s.atBoundary = true := by
  cases h with
  | idle h => exact h
  | running hbusy => simp [hb] at hbusy

theorem ClockInv.busy_of_strobe {s : State} (h : ClockInv s) (hs : s.we = true ∨ s.ale = .transparent) : s.busy = true := by
  by_contra hb
  obtain ⟨hrest, -⟩ := s.atBoundary_iff.1 (h.atBoundary (by simpa using hb))
  obtain ⟨-, -, hwe, hale, -⟩ := s.pinsAtRest_iff.1 hrest
  simp [hwe, hale] at hs

/-- Settles O41: `ClockInv` holds at the boundary and every edge keeps it, and the row of the table that `bus` names gives each clause. -/
theorem pinTableAtEveryCycle : Obligations.PinTableAtEveryCycle := by
  unfold Obligations.PinTableAtEveryCycle
  intro s ps hs
  obtain ⟨t, ht, hinv⟩ := runClock_induct (fun _ p h => ClockInv.tick h p) ps (.idle hs)
  have hrow : t.busTable = true := hinv.busTable
  refine ⟨t, ht, hrow, ?_, fun hwe => ?_, fun hale => ?_, hinv.atBoundary⟩
  · simpa [State.contention] using State.not_contention_of_busTable hrow
  · exact ⟨hinv.busy_of_strobe (.inl hwe), State.busTable_of_we hrow hwe⟩
  · exact ⟨hinv.busy_of_strobe (.inr hale), State.busTable_of_transparent hrow hale⟩

end Sys2Proof.Machine
end

section
/-! PROOFS. One step from a boundary, whatever the host's next move (10_state.md R12, R15, R27; 60_exceptions.md R194). -/

namespace Sys2Proof.Machine

theorem step_inReset {s : State} (h : s.inReset = true) : step s = .next s.leaveReset := by
  simp [step, h]

theorem step_no_moves {s : State} (hr : s.inReset = false) (hb : s.busy = false) (hm : s.moves = []) : step s = .next s := by
  simp [step, hr, hb, hm]

theorem step_move {s : State} {m : HostMove} {rest : List HostMove} (hr : s.inReset = false) (hb : s.busy = false)
    (hm : s.moves = m :: rest) : step s = (s.popMove rest).hostMove m := by
  simp [step, hr, hb, hm]

theorem State.issue_inv {s : State} (h : s.inv = true) (w : CmdWord) : ∃ t, s.issue w = .next t ∧ t.inv = true := by
  obtain ⟨hb, hdev, hce⟩ := s.inv_iff.1 h
  obtain ⟨hrest, -⟩ := s.atBoundary_iff.1 hb
  obtain ⟨-, -, -, -, -, hdev', hce'⟩ := s.admitWord_frame w
  obtain ⟨t, ht, htrest⟩ := (s.tableRun_admitWord hrest w).runSteps
  refine ⟨t.finish, by simp [State.issue_eq_resume, State.resume, ht], State.finish_inv htrest ?_ ?_⟩
  · exact runSteps_deviceWf ht (hdev'.trans hdev)
  · exact (runSteps_ceConstant ht).trans (hce'.trans hce)

theorem State.issueCut_inv {s : State} (h : s.inv = true) (w : CmdWord) (n : Nat) :
    ∃ t, s.issueCut w n = .next t ∧ t.inv = true := by
  obtain ⟨hb, hdev, -⟩ := s.inv_iff.1 h
  obtain ⟨hrest, -⟩ := s.atBoundary_iff.1 hb
  obtain ⟨-, -, -, -, -, hdev', -⟩ := s.admitWord_frame w
  obtain ⟨u, hu⟩ := (s.tableRun_admitWord hrest w).runSteps_take n
  exact ⟨u.assertReset, by simp [State.issueCut, hu], State.assertReset_inv (runSteps_deviceWf hu (hdev'.trans hdev))⟩

theorem State.hostMove_inv {s : State} (h : s.inv = true) (m : HostMove) : ∃ t, s.hostMove m = .next t ∧ t.inv = true := by
  cases m with
  | pause => exact ⟨s, rfl, h⟩
  | command w => exact State.issue_inv h w
  | commandCut w n => exact State.issueCut_inv h w n
  | reset => exact ⟨_, rfl, State.assertReset_inv (s.inv_iff.1 h).2.1⟩

theorem step_inv {s : State} (h : s.inv = true) : ∃ t, step s = .next t ∧ t.inv = true := by
  obtain ⟨-, hb, -⟩ := s.atBoundary_iff.1 (s.inv_iff.1 h).1
  cases hr : s.inReset with
  | true => exact ⟨_, step_inReset hr, h⟩
  | false =>
    cases hm : s.moves with
    | nil => exact ⟨s, step_no_moves hr hb hm, h⟩
    | cons m rest =>
      rw [step_move hr hb hm]
      exact State.hostMove_inv (s := s.popMove rest) h m

/-- Settles O42: a command is its admission finished, a cut one the beginning of the same run and a reset. -/
theorem stepKeepsBoundary : Obligations.StepKeepsBoundary := by
  unfold Obligations.StepKeepsBoundary
  exact fun _ => step_inv

/-- Settles O10, from the equations of a step with no move and with a move. -/
theorem pinsHoldBetweenCommands : Obligations.PinsHoldBetweenCommands := by
  unfold Obligations.PinsHoldBetweenCommands
  exact fun s hr hb => ⟨step_no_moves hr hb, fun rest hm => step_move hr hb hm⟩

/-- Settles O43, for `State.reset` as the case of its own parameters and device. -/
theorem resetIsBoundary : Obligations.ResetIsBoundary := by
  unfold Obligations.ResetIsBoundary
  exact ⟨State.resetWith_inv _ rfl, fun c d => State.resetWith_inv c⟩

/-- Settles O45: the fields are those `State.resetWith` writes, and with no move left a step changes nothing. -/
theorem resetValues : Obligations.ResetValues := by
  unfold Obligations.ResetValues
  refine ⟨rfl, fun c d => ?_⟩
  have hstep : step (State.resetWith c d) = .next (State.resetWith c d) := step_no_moves rfl rfl rfl
  exact ⟨rfl, rfl, rfl, rfl, rfl, rfl, rfl, rfl, rfl, rfl, rfl, rfl, rfl, rfl, rfl, rfl, rfl, rfl, hstep⟩

end Sys2Proof.Machine
end

section
/-! PROOFS. Which commands write which line: the pin actions of every command's list. -/

namespace Sys2Proof.Machine

/-- The pin actions of each command, in their order (10_state.md R20; the lists of 41_bus_direction.md, 42_address_latch.md, 43_byte_access.md). -/
def pinActions : Instr → List PinAction
  | .nop => []
  | .readByte a =>
    [.setDoe false, .setDir .output, .setAle .transparent, .drive (deviceAddress a), .wait 1, .setAle .latched,
      .setDir .input, .setDoe true, .wait 3, .sample, .setDoe false, .setDir .input]
  | .writeByte a d =>
    [.setDoe false, .setDir .output, .setAle .transparent, .drive (deviceAddress a), .wait 1, .setAle .latched,
      .setDoe false, .setDir .output, .drive (dataLines d), .setWe true, .wait 1, .setWe false, .setDir .input]
  | .prepAddr => [.setDoe false, .setDir .output]
  | .drive a => [.drive (lineValue a)]
  | .prepRead => [.setDir .input, .setDoe true]
  | .sample => [.sample]
  | .prepWrite d =>
    [.setDoe false, .setDir .output, .drive (dataLines d), .setWe true, .wait 1, .setWe false, .setDir .input]
  | .latchAddr a => [.setAle .transparent, .drive (deviceAddress a), .wait 1, .setAle .latched]
  | .delay cls => [.wait (delayUnits cls)]
  | .busIdle => [.setDoe false, .setDir .input]

theorem map_action_microSteps (i : Instr) : (microSteps i).map (·.action) = pinActions i := by
  cases i <;> rfl

theorem action_mem_pinActions {i : Instr} {m : MicroStep} (h : m ∈ microSteps i) : m.action ∈ pinActions i :=
  map_action_microSteps i ▸ List.mem_map_of_mem h

theorem setWe_mem_pinActions {i : Instr} {b : Bool} :
    .setWe b ∈ pinActions i → (∃ d, i = .prepWrite d) ∨ ∃ a d, i = .writeByte a d := by
  cases i <;> simp [pinActions]

theorem setAle_mem_pinActions {i : Instr} {l : LatchLevel} :
    .setAle l ∈ pinActions i → (∃ a, i = .latchAddr a) ∨ (∃ a, i = .readByte a) ∨ ∃ a d, i = .writeByte a d := by
  cases i <;> simp [pinActions]

theorem setDoe_mem_pinActions {i : Instr} {b : Bool} :
    .setDoe b ∈ pinActions i → i = .prepAddr ∨ i = .prepRead ∨ (∃ d, i = .prepWrite d) ∨ i = .busIdle ∨
      (∃ a, i = .readByte a) ∨ ∃ a d, i = .writeByte a d := by
  cases i <;> simp [pinActions]

theorem setDir_mem_pinActions {i : Instr} {d : Direction} :
    .setDir d ∈ pinActions i → i = .prepAddr ∨ i = .prepRead ∨ (∃ d, i = .prepWrite d) ∨ i = .busIdle ∨
      (∃ a, i = .readByte a) ∨ ∃ a d, i = .writeByte a d := by
  cases i <;> simp [pinActions]

theorem drive_mem_pinActions {i : Instr} {v : Lines} :
    .drive v ∈ pinActions i → (∃ a, i = .drive a) ∨ (∃ a, i = .latchAddr a) ∨ (∃ d, i = .prepWrite d) ∨
      (∃ a, i = .readByte a) ∨ ∃ a d, i = .writeByte a d := by
  cases i <;> simp [pinActions]

theorem sample_mem_pinActions {i : Instr} : .sample ∈ pinActions i → i = .sample ∨ ∃ a, i = .readByte a := by
  cases i <;> simp [pinActions]

/-- Settles O39, line by line from the table of pin actions. -/
theorem whoWritesWhichLine : Obligations.WhoWritesWhichLine := by
  unfold Obligations.WhoWritesWhichLine
  intro i m hm
  have ha : m.action ∈ pinActions i := action_mem_pinActions hm
  exact ⟨fun b h => setWe_mem_pinActions (h ▸ ha), fun l h => setAle_mem_pinActions (h ▸ ha),
    fun b h => setDoe_mem_pinActions (h ▸ ha), fun d h => setDir_mem_pinActions (h ▸ ha),
    fun v h => drive_mem_pinActions (h ▸ ha), fun h => sample_mem_pinActions (h ▸ ha)⟩

end Sys2Proof.Machine
end

section
/-! PROOFS. READ_BYTE and WRITE_BYTE from a ready state as whole commands: what a read answers of a live and of a dead device, and what a write leaves
in the device (43_byte_access.md R141, R142; 20_memory.md R46 to R48, R53, R57). -/

namespace Sys2Proof.Machine

/-- The timing premise is the three obligations of 40_timing_primitives.md R106. -/
theorem timingOK_iff (c : Config) :
    c.timingOK = true ↔ c.settleOK = true ∧ c.writePulseOK = true ∧ c.accessOK = true := by
  simp [Config.timingOK, and_assoc]

/-- Commands that are no primitives are accepted whatever `PRIM_EN` is (30_encoding.md R76). -/
theorem acceptedBy_of_not_primitive {i : Instr} (h : i.isPrimitive = false) (c : Config) : i.acceptedBy c = true := by
  simp [Instr.acceptedBy, h]

/-! ### Issuing an assembled command -/

theorem decodeWord_encode (i : Instr) : decodeWord (encode i) = .ok i := by
  cases i with
  | delay cls =>
    cases cls <;>
      simp [decodeWord, encode, Instr.opcode, Instr.encodedArg, opField_packWord, argField_packWord, delayClassOf]
  | _ =>
    simp [decodeWord, encode, Instr.opcode, Instr.encodedArg, Instr.encodedData, opField_packWord, argField_packWord,
      dataField_packWord]

/-- An assembled command at the port is that command executed after its acceptance (30_encoding.md R78, R79). -/
theorem State.issue_encode (i : Instr) (s : State) : s.issue (encode i) = exec i (s.accept (encode i)) := by
  simp [State.issue, decodeWord_encode]

theorem State.Ready.accept {s : State} (h : s.Ready) (w : CmdWord) : (s.accept w).Ready := h

theorem issueAll_cons_of_next {s t : State} {w : CmdWord} (h : s.issue w = .next t) (ws : List CmdWord) :
    issueAll (w :: ws) s = issueAll ws t := by
  simp [issueAll, h]

/-! ### READ_BYTE -/

/-- A device that is stuck or not selected drives no valid data, so the sample is the next free value (20_memory.md R43 (d), R57). -/
theorem readSample_free {s : State} (arg : Arg) (hs : s.cfg.settleOK = true) (hd : s.ce = false ∨ s.dev.stuck = true) :
    readSample arg s = Config.draw20 s.draws := by
  have hinvalid : (sampledState arg s).dataValid = false := by
    rcases hd with hce | hstuck
    · simp [sampledState, State.dataValid, State.deviceDrives, hce]
    · simp [sampledState, State.dataValid, hstuck]
  have hdraws : (sampledState arg s).draws = s.draws := by simp [sampledState, hs]
  have hdir : (sampledState arg s).dir = .input := rfl
  simp [readSample, State.level, hdir, hinvalid, hdraws]

/-- READ_BYTE answers the data lane of its one sample (43_byte_access.md R141). -/
theorem State.Ready.exec_readByte {s : State} (h : s.Ready) (arg : Arg) :
    ∃ t, exec (.readByte arg) s = .next t ∧ t.rdVal = readSample arg s ∧
      t.responses = s.responses ++ [⟨.ok, dataLines (dataLane (readSample arg s))⟩] := by
  obtain ⟨hrest, hfault⟩ := h
  exact ⟨_, exec_runs hfault (acceptedBy_of_not_primitive rfl _) rfl (run_readByte (State.pinsAtRest_latched hrest) arg), rfl, rfl⟩

/-- With the device selected, in time and not stuck, READ_BYTE answers the device's byte (43_byte_access.md R141). -/
theorem State.Ready.exec_readByte_valid {s : State} (h : s.Ready) (hc : s.Selected) (ht : s.TimingOK) (he : s.EnvOK) (arg : Arg) :
    ∃ t, exec (.readByte arg) s = .next t ∧
      t.responses = s.responses ++ [⟨.ok, dataLines (s.dev.read (deviceAddress arg))⟩] := by
  obtain ⟨t, hexec, -, hresp⟩ := h.exec_readByte arg
  exact ⟨t, hexec, by rw [hresp, readSample_valid arg ht hc he, dataLane_withDataLane]⟩

/-- Settles O30: the sample is the free value `readSample_free` names, and READ_BYTE answers its data lane. -/
theorem readOfDeadDeviceCompletes : Obligations.ReadOfDeadDeviceCompletes := by
  unfold Obligations.ReadOfDeadDeviceCompletes
  intro s arg h hd ht
  obtain ⟨hsettle, -, -⟩ := (timingOK_iff s.cfg).1 ht
  have hfree : readSample arg s = Config.draw20 s.draws := readSample_free arg hsettle hd
  obtain ⟨t, hexec, hval, hresp⟩ := h.exec_readByte arg
  rw [hfree] at hval hresp
  exact ⟨t, hexec, hval, hresp⟩

/-! ### WRITE_BYTE, and a read after it -/

/-- No write mends or breaks a device (20_memory.md R57). -/
@[simp] theorem Device.write_stuck (d : Device) (a : Lines) (v : Byte) : (d.write a v).stuck = d.stuck := by
  unfold Device.write
  split <;> rfl

/-- With the device selected and in time, WRITE_BYTE ends ready, with its byte written to the device at the truncated address
(43_byte_access.md R142, 20_memory.md R47; 92_eei_decisions.md D18, log 28). -/
theorem State.Ready.exec_writeByte {s : State} (h : s.Ready) (hc : s.Selected) (ht : s.TimingOK) (arg : Arg) (data : Byte) :
    ∃ t, exec (.writeByte arg data) s = .next t ∧ t.Ready ∧ t.cfg = s.cfg ∧ t.ce = s.ce ∧
      t.dev = s.dev.write (deviceAddress arg) data ∧ t.responses = s.responses ++ [⟨.ok, 0#20⟩] := by
  obtain ⟨hsettle, hpulse, -⟩ := (timingOK_iff s.cfg).1 ht
  obtain ⟨hrest, hfault⟩ := h
  have hale : s.ale = .latched := State.pinsAtRest_latched hrest
  refine ⟨_, exec_runs hfault (acceptedBy_of_not_primitive rfl _) rfl (run_writeByte hale arg data), ⟨?_, hfault⟩, rfl, rfl, ?_, rfl⟩
  · simp [State.pinsAtRest, State.busTable, hale]
  · simp [writtenDevice, hsettle, hpulse, show s.ce = true from hc]

/-- Settles O33: the write ends ready with the written device, and the read answers that device's byte, which `Device.read_write_ram` gives. -/
theorem ramReadAfterWrite : Obligations.RamReadAfterWrite := by
  unfold Obligations.RamReadAfterWrite
  intro s a b data h hc ht he hram
  obtain ⟨u, hwrite, hready, hcfg, hce, hdev, hresp⟩ :=
    (h.accept (encode (.writeByte a data))).exec_writeByte hc ht a data
  have hselected : u.Selected := hce.trans hc
  have htiming : u.TimingOK := by simpa [State.TimingOK, hcfg] using ht
  have henv : u.EnvOK := by simpa [State.EnvOK, hdev] using he
  obtain ⟨t, hread, hresp'⟩ :=
    (hready.accept (encode (.readByte b))).exec_readByte_valid hselected htiming henv b
  refine ⟨t, ?_, ?_⟩
  · rw [issueAll_cons_of_next ((State.issue_encode _ s).trans hwrite),
      issueAll_cons_of_next ((State.issue_encode _ u).trans hread), issueAll]
  · simp only [State.accept_responses, State.accept_dev] at hresp hresp' hdev
    rw [hresp', hresp, hdev, Device.read_write_ram hram, List.append_assoc]
    rfl

end Sys2Proof.Machine
end

section
/-! PROOFS. The decoder and the assembler agree: a word decodes to an instruction exactly when its `OP` and the bits the instruction
reads are those the assembler writes (30_encoding.md R70 to R75, R79). -/

namespace Sys2Proof

/-! ### The fields of a masked word -/

theorem packWord_inj {o o' : BitVec 4} {d d' : Byte} {a a' : Arg} :
    packWord o d a = packWord o' d' a' ↔ o = o' ∧ d = d' ∧ a = a' := by
  refine ⟨fun h => ⟨?_, ?_, ?_⟩, fun ⟨ho, hd, ha⟩ => by rw [ho, hd, ha]⟩
  · simpa only [opField_packWord] using congrArg opField h
  · simpa only [dataField_packWord] using congrArg dataField h
  · simpa only [argField_packWord] using congrArg argField h

/-- The mask of an instruction keeps `OP` whole and, of the other fields, the bits its format reads. -/
theorem opMask_or_readMask (i : Instr) :
    opMask ||| i.readMask = packWord (BitVec.allOnes 4) (dataField i.readMask) (argField i.readMask) := by
  cases i <;> simp only [Instr.readMask] <;> decide

theorem and_opMask (w : CmdWord) : w &&& opMask = packWord (opField w) 0#8 0#32 := by
  have hmask : opMask = packWord (BitVec.allOnes 4) 0#8 0#32 := by decide
  conv_lhs => rw [← Machine.packWord_fields w, hmask, packWord_and, BitVec.and_allOnes, BitVec.and_zero, BitVec.and_zero]

theorem and_readMask (w : CmdWord) (i : Instr) :
    w &&& (opMask ||| i.readMask) =
      packWord (opField w) (dataField w &&& dataField i.readMask) (argField w &&& argField i.readMask) := by
  conv_lhs => rw [← Machine.packWord_fields w, opMask_or_readMask, packWord_and, BitVec.and_allOnes]

/-! ### The words of an instruction -/

/-- `ARG[0]` is all that DELAY reads of `ARG`, and the assembler writes just it (30_encoding.md R73). -/
theorem and_one_eq_encodedArg_iff (a : Arg) (c : DelayClass) :
    a &&& 1#32 = (Instr.delay c).encodedArg ↔ delayClassOf a = c := by
  rw [BitVec.and_one_eq_setWidth_ofBool_getLsbD, delayClassOf]
  cases a.getLsbD 0 <;> cases c <;> decide

theorem and_wholeByte (d : Byte) : d &&& 0xFF#8 = d := BitVec.and_allOnes

theorem and_wholeArg (a : Arg) : a &&& 0xFFFFFFFF#32 = a := BitVec.and_allOnes

/-- The words that decode to an instruction are those that agree with the assembler's on `OP` and the bits read (30_encoding.md R72 to R74, R79). -/
theorem decodeWord_eq_ok_iff (w : CmdWord) (i : Instr) :
    decodeWord w = .ok i ↔ w &&& (opMask ||| i.readMask) = encode i := by
  rw [and_readMask, encode, packWord_inj]
  constructor
  · intro h
    obtain ⟨hop, hfields⟩ := decodeWord_cases h
    refine ⟨hop, ?_⟩
    cases i with
    | delay c => simpa [Instr.readMask, dataField, argField, Instr.encodedData] using (and_one_eq_encodedArg_iff _ c).2 hfields
    | _ => simp_all [Instr.readMask, dataField, argField, Instr.encodedData, Instr.encodedArg, and_wholeByte, and_wholeArg]
  · rintro ⟨hop, hdata, harg⟩
    cases i with
    | delay c => simp [decodeWord, hop, Instr.opcode, (and_one_eq_encodedArg_iff _ c).1 harg]
    | _ =>
      simp_all [decodeWord, Instr.opcode, Instr.readMask, dataField, argField, Instr.encodedData, Instr.encodedArg,
        and_wholeByte, and_wholeArg]

/-- Every word without a reserved `OP` decodes (30_encoding.md R72, R75). -/
theorem decodeWord_of_not_reserved {w : CmdWord} (h : ¬(3 ≤ (opField w).toNat ∧ (opField w).toNat ≤ 7)) :
    ∃ i, decodeWord w = .ok i := by
  have hlt : (opField w).toNat < 16 := (opField w).isLt
  unfold decodeWord
  split
  case h_12 => simp only [imp_false] at *; omega
  all_goals exact ⟨_, rfl⟩

theorem isPrimitive_iff (i : Instr) : i.isPrimitive = true ↔ 8 ≤ i.opcode.toNat := by
  cases i <;> simp [Instr.isPrimitive, Instr.opcode]

theorem encode_and_readMask (i : Instr) : encode i &&& (opMask ||| i.readMask) = encode i :=
  (decodeWord_eq_ok_iff _ i).1 (Machine.decodeWord_encode i)

/-- Settles O1, word by word. -/
theorem workedEncodingsDecode : Obligations.WorkedEncodingsDecode := by
  unfold Obligations.WorkedEncodingsDecode
  exact ⟨rfl, rfl, rfl, rfl, rfl, rfl, rfl, rfl, rfl, rfl, rfl, rfl, rfl, rfl⟩

/-- Settles O2: the fields of the packed word are the instruction's own, so every instruction, well formed or not, is read back. -/
theorem decodeOfEncode : Obligations.DecodeOfEncode := by
  unfold Obligations.DecodeOfEncode
  exact fun i _ => Machine.decodeWord_encode i

/-- Settles O3, from the words that decode to an instruction. -/
theorem encodeOfDecode : Obligations.EncodeOfDecode := by
  unfold Obligations.EncodeOfDecode
  exact fun w i h => ((decodeWord_eq_ok_iff w i).1 h).symm

/-- Settles O4: the reserved values are the only ones the decoder's match leaves over, and a decoded word has the opcode of its instruction. -/
theorem opcodeAloneSelects : Obligations.OpcodeAloneSelects := by
  unfold Obligations.OpcodeAloneSelects
  refine ⟨fun w => ⟨?_, decodeWord_of_not_reserved⟩, fun w i h => ?_⟩
  · rintro ⟨i, hi⟩ ⟨h3, h7⟩
    simp [decodeWord_reserved h3 h7] at hi
  · obtain ⟨hop, -⟩ := decodeWord_cases h
    exact ⟨by rw [and_opMask, hop], by rw [isPrimitive_iff, hop]⟩

end Sys2Proof
end

section
/-! PROOFS. A word answered at its acceptance: the reserved `OP`, the narrow interface and the failed precondition
(30_encoding.md R75, R76; 60_exceptions.md R185, R186). -/

namespace Sys2Proof.Machine

/-- A fault taken by the word just accepted, answered at once, leaves the state `State.faultedBy` names. -/
theorem State.answer_raise_accept {s : State} (hf : s.fault = none) (w : CmdWord) (x : BlockFault) :
    ((s.accept w).raise x).answer x.status 0#20 = s.faultedBy w x := by
  rw [State.raise_none (s := s.accept w) hf, State.accept_cmdWord]
  rfl

theorem acceptedBy_iff (i : Instr) (c : Config) : i.acceptedBy c = true ↔ (i.isPrimitive && !c.primEn) = false := by
  cases hp : c.primEn <;> simp [Instr.acceptedBy, hp]

theorem State.issue_reserved {w : CmdWord} {e : DecodeError} {s : State} (hd : decodeWord w = .error e) (hf : s.fault = none) :
    s.issue w = .next (s.faultedBy w .illegalCommand) := by
  rw [State.issue_error hd, ← State.answer_raise_accept hf]
  simp [State.performReserved, hf, BlockFault.status]

theorem State.issue_illegal {w : CmdWord} {i : Instr} {s : State} (hd : decodeWord w = .ok i) (hf : s.fault = none)
    (ha : i.acceptedBy s.cfg = false) : s.issue w = .next (s.faultedBy w .illegalCommand) := by
  have hp : (i.isPrimitive && !s.cfg.primEn) = true := by
    simpa using mt (acceptedBy_iff i s.cfg).2 (by simp [ha])
  rw [State.issue_ok hd, State.perform_illegal (s := s.accept w) hf hp, ← State.answer_raise_accept hf]
  rfl

theorem State.issue_violation {w : CmdWord} {i : Instr} {s : State} (hd : decodeWord w = .ok i) (hf : s.fault = none)
    (ha : i.acceptedBy s.cfg = true) (hp : precondition i s = false) :
    s.issue w = .next (s.faultedBy w .busTimingViolation) := by
  rw [State.issue_ok hd, State.perform_violation (s := s.accept w) hf ((acceptedBy_iff i s.cfg).1 ha) (by simpa using hp),
    ← State.answer_raise_accept hf]
  rfl

theorem State.issue_refused {w : CmdWord} {i : Instr} {s : State} {f : BlockFault} (hd : decodeWord w = .ok i)
    (hf : s.fault = some f) : s.issue w = .next (s.answeredAtOnce w f.status) := by
  rw [State.issue_ok hd, State.perform_refused (s := s.accept w) hf]
  rfl

theorem State.issue_runs {w : CmdWord} {i : Instr} {s u : State} (hd : decodeWord w = .ok i) (hf : s.fault = none)
    (ha : i.acceptedBy s.cfg = true) (hp : precondition i s = true) (hr : runSteps (microSteps i) (s.accept w) = .next u) :
    s.issue w = .next (u.answer .ok (resultValue i u)) := by
  rw [State.issue_ok hd, ← exec_eq_perform]
  exact exec_runs hf ha (by simpa using hp) hr

/-- What a decoded word that ends in a next state did: it was refused, or faulted at its acceptance and did nothing else, or ran its micro-steps
and answered `OK` (60_exceptions.md R185 to R187). -/
theorem State.issue_cases {w : CmdWord} {i : Instr} {s t : State} (hd : decodeWord w = .ok i) (h : s.issue w = .next t) :
    (∃ f, s.fault = some f ∧ t = s.answeredAtOnce w f.status) ∨
    (s.fault = none ∧ i.acceptedBy s.cfg = false ∧ t = s.faultedBy w .illegalCommand) ∨
    (s.fault = none ∧ i.acceptedBy s.cfg = true ∧ precondition i s = false ∧ t = s.faultedBy w .busTimingViolation) ∨
    (s.fault = none ∧ i.acceptedBy s.cfg = true ∧ precondition i s = true ∧
      ∃ u, runSteps (microSteps i) (s.accept w) = .next u ∧ t = u.answer .ok (resultValue i u)) := by
  cases hf : s.fault with
  | some f => exact .inl ⟨f, rfl, by simpa [State.issue_refused hd hf] using h.symm⟩
  | none =>
    cases ha : i.acceptedBy s.cfg with
    | false => exact .inr (.inl ⟨rfl, rfl, by simpa [State.issue_illegal hd hf ha] using h.symm⟩)
    | true =>
      cases hp : precondition i s with
      | false => exact .inr (.inr (.inl ⟨rfl, rfl, rfl, by simpa [State.issue_violation hd hf ha hp] using h.symm⟩))
      | true =>
        rw [State.issue_ok hd, State.perform_runs (s := s.accept w) hf ((acceptedBy_iff i s.cfg).1 ha)
          (by simpa using hp)] at h
        refine .inr (.inr (.inr ⟨rfl, rfl, rfl, ?_⟩))
        split at h
        next u hu => exact ⟨u, hu, by simpa using h.symm⟩
        all_goals simp at h

/-- Settles O6: the decoder refuses a reserved `OP` by name, and the word's fault is answered at once. -/
theorem reservedOpcodesFault : Obligations.ReservedOpcodesFault := by
  unfold Obligations.ReservedOpcodesFault
  intro w s h3 h7 hf
  have hd : decodeWord w = .error (.reservedOp (opField w)) := decodeWord_reserved h3 h7
  exact ⟨hd, State.issue_reserved hd hf⟩

/-- Settles O7: an `OP` of 8 or more decodes to a primitive, which `PRIM_EN = false` does not accept; an accepted command takes its
precondition's fault or none. -/
theorem narrowInterface : Obligations.NarrowInterface := by
  unfold Obligations.NarrowInterface
  refine ⟨fun w s h8 hen hf => ?_, fun w i s t hd ha hf h => ?_, fun w i s hd ha hf => State.issue_violation hd hf ha⟩
  · obtain ⟨i, hd⟩ := decodeWord_of_not_reserved (w := w) (by omega)
    obtain ⟨hop, -⟩ := decodeWord_cases hd
    have hprim : i.isPrimitive = true := (isPrimitive_iff i).2 (hop ▸ h8)
    exact State.issue_illegal hd hf (by simp [Instr.acceptedBy, hen, hprim])
  · rcases State.issue_cases hd h with ⟨f, hf', -⟩ | ⟨-, ha', -⟩ | ⟨-, -, -, rfl⟩ | ⟨-, -, -, u, hu, rfl⟩
    · simp [hf] at hf'
    · simp [ha] at ha'
    · simp [State.faultedBy]
    · obtain ⟨-, -, -, -, -, hfault, -⟩ := runSteps_keeps hu
      simp [hfault, hf]

end Sys2Proof.Machine
end

section
/-! PROOFS. The bits of a word that its operation does not read: they reach the holding registers and the fault record and nothing else
(30_encoding.md R74; 10_state.md R19). -/

namespace Sys2Proof.Machine

/-- The state with the holding registers and the recorded command word of another: what a word's ignored bits can change. -/
def State.withWordOf (s v : State) : State :=
  { s with curOp := v.curOp, curData := v.curData, curArg := v.curArg, faultCw := v.faultCw }

theorem sameButCommandWord_withWordOf (s v : State) : SameButCommandWord s (s.withWordOf v) := rfl

/-! ### No operation at the pins looks at the holding registers -/

theorem State.withWordOf_ale (s v : State) : (s.withWordOf v).ale = s.ale := rfl

theorem State.withWordOf_pulse (s v : State) : (s.withWordOf v).pulse = s.pulse := rfl

theorem State.freeze_withWordOf (s v : State) : (s.withWordOf v).freeze = s.freeze.withWordOf v := by
  unfold State.freeze
  cases hale : s.ale with
  | latched => simp only [State.withWordOf_ale, hale]
  | transparent =>
    simp only [State.withWordOf_ale, hale, apply_ite (State.withWordOf · v)]
    rfl

theorem State.endPulse_withWordOf (s v : State) : (s.withWordOf v).endPulse = s.endPulse.withWordOf v := by
  unfold State.endPulse
  cases hp : s.pulse <;>
    (simp only [State.withWordOf_pulse, hp, apply_ite (State.withWordOf · v)]; rfl)

theorem State.act_withWordOf (s v : State) (a : PinAction) : (s.withWordOf v).act a = (s.act a).withWordOf v := by
  cases a with
  | setDoe _ | setDir _ | drive _ =>
    cases hale : s.ale <;>
      (simp only [State.act, State.setDoe, State.setDir, State.drive, State.follow, State.withWordOf_ale, hale]; rfl)
  | setAle l =>
    cases l with
    | latched =>
      simp only [State.act, State.setAle, State.freeze_withWordOf]
      rfl
    | transparent => rfl
  | setWe b =>
    cases b with
    | false =>
      simp only [State.act, State.setWe, State.endPulse_withWordOf]
      rfl
    | true => rfl
  | wait k => rfl
  | sample => rfl

theorem State.microStep_withWordOf (s v : State) (m : MicroStep) :
    (s.withWordOf v).microStep m = (s.microStep m).withWordOf v := by
  simp only [State.microStep, State.act_withWordOf]
  cases m.bus <;> rfl

theorem runSteps_withWordOf {ms : List MicroStep} {s t : State} (h : runSteps ms s = .next t) (v : State) :
    runSteps ms (s.withWordOf v) = .next (t.withWordOf v) := by
  induction ms generalizing s with
  | nil =>
    rw [runSteps, Host.Outcome.next.injEq] at h
    rw [runSteps, h]
  | cons m ms ih =>
    simp only [runSteps, State.microStep_withWordOf] at h ⊢
    have hc : ((s.microStep m).withWordOf v).contention = (s.microStep m).contention := rfl
    rw [hc]
    split at h
    next => simp at h
    next hcont => rw [if_neg hcont, ih h]

theorem resultValue_withWordOf (i : Instr) (s v : State) : resultValue i (s.withWordOf v) = resultValue i s := by
  cases i <;> rfl

/-! ### Two words of one instruction -/

/-- A decoded word's `DATA` and `ARG` stand in the holding registers, and a fault it takes records it whole
(10_state.md R19, 60_exceptions.md R186). -/
theorem State.issue_records_word {w : CmdWord} {i : Instr} {s t : State} (hd : decodeWord w = .ok i) (h : s.issue w = .next t) :
    t.curData = dataField w ∧ t.curArg = argField w ∧ (s.fault = none → t.fault ≠ none → t.faultCw = w) := by
  rcases State.issue_cases hd h with ⟨f, hf, rfl⟩ | ⟨-, -, rfl⟩ | ⟨-, -, -, rfl⟩ | ⟨hf, -, -, u, hu, rfl⟩
  · exact ⟨rfl, rfl, fun hnone => by simp [hf] at hnone⟩
  · exact ⟨rfl, rfl, fun _ _ => rfl⟩
  · exact ⟨rfl, rfl, fun _ _ => rfl⟩
  · obtain ⟨-, -, -, hdata, harg, hfault, -⟩ := runSteps_keeps hu
    exact ⟨hdata, harg, fun _ hne => absurd (hfault.trans hf) hne⟩

/-- Two words of one instruction do the same, but for the holding registers and the recorded command word (30_encoding.md R74). -/
theorem State.issue_sameButCommandWord {w w' : CmdWord} {i : Instr} {s t : State} (hd : decodeWord w = .ok i)
    (hd' : decodeWord w' = .ok i) (h : s.issue w = .next t) : ∃ t', s.issue w' = .next t' ∧ SameButCommandWord t t' := by
  rcases State.issue_cases hd h with ⟨f, hf, rfl⟩ | ⟨hf, ha, rfl⟩ | ⟨hf, ha, hp, rfl⟩ | ⟨hf, ha, hp, u, hu, rfl⟩
  · exact ⟨_, State.issue_refused hd' hf, rfl⟩
  · exact ⟨_, State.issue_illegal hd' hf ha, rfl⟩
  · exact ⟨_, State.issue_violation hd' hf ha hp, rfl⟩
  · have hu' : runSteps (microSteps i) (s.accept w') = .next (u.withWordOf (s.accept w')) :=
      runSteps_withWordOf hu (s.accept w')
    refine ⟨_, State.issue_runs hd' hf ha hp hu', ?_⟩
    rw [resultValue_withWordOf]
    exact sameButCommandWord_withWordOf (u.answer .ok (resultValue i u)) (s.accept w')

/-- Settles O5: words that agree on the bits read decode alike (`decodeWord_eq_ok_iff`), and a run does not look at the others. -/
theorem ignoredFieldsChangeNothing : Obligations.IgnoredFieldsChangeNothing := by
  unfold Obligations.IgnoredFieldsChangeNothing
  refine ⟨fun i => ?_, fun w w' i hd hmask => ?_⟩
  · rw [← encode_and_readMask, BitVec.and_assoc, BitVec.and_not_self]
    exact BitVec.and_zero
  · have hd' : decodeWord w' = .ok i := by rwa [decodeWord_eq_ok_iff, ← hmask, ← decodeWord_eq_ok_iff]
    refine ⟨hd', fun s t h => ?_⟩
    obtain ⟨hdata, harg, hword⟩ := State.issue_records_word hd h
    exact ⟨hdata, harg, hword, State.issue_sameButCommandWord hd hd' h⟩

end Sys2Proof.Machine
end

section
/-! PROOFS. A step and an edge of the clock: the command a step runs, what an edge does with the host's ports, and what the output ports show
(30_encoding.md R77, R78, R82; 10_state.md R19, R20, R30). -/

namespace Sys2Proof.Machine

/-! ### The step -/

theorem State.hostMove_command {w : CmdWord} {i : Instr} (h : decodeWord w = .ok i) (s : State) :
    s.hostMove (.command w) = exec i (s.accept w) := by
  simp [State.hostMove, State.issue, h]

theorem decodeWord_of_decodeTableWord {n w : Nat} {i : Instr} (h : decodeTableWord n w = some i) :
    decodeWord (BitVec.ofNat 44 w) = .ok i := by
  unfold decodeTableWord at h
  split at h
  · split at h
    · simp_all only [Option.some.injEq]
    · simp at h
  · simp at h

/-- Settles O8: the host's next move is the command, and its word is accepted. -/
theorem stepRunsDecodedCommand : Obligations.StepRunsDecodedCommand := by
  unfold Obligations.StepRunsDecodedCommand
  intro s w rest i hr hb hm hd
  rw [step_move hr hb hm, State.hostMove_command hd]
  rfl

/-- Settles O9: the move `withFetchWord` puts at the head of the list is the table's word. -/
theorem fetchWordRunsNext : Obligations.FetchWordRunsNext := by
  unfold Obligations.FetchWordRunsNext
  intro s n w i h
  rw [step_move (s := s.withFetchWord n w) rfl rfl rfl, State.hostMove_command (decodeWord_of_decodeTableWord h)]
  rfl

/-! ### An edge of the clock -/

/-- While a command is in progress an edge without reset is one cycle of it, whatever the host's ports (30_encoding.md R78). -/
theorem tick_busy {p : PortsIn} {s : State} (hp : p.rstN = true) (hr : s.inReset = false) (hb : s.busy = true) :
    tick p s = s.busyCycle := by
  simp [tick, hp, hr, hb]

theorem tick_ready {p : PortsIn} {s : State} (hp : p.rstN = true) (hr : s.inReset = false) (hb : s.busy = false) :
    tick p s = if p.cmdValid then .next (s.admitWord p.cmdWord) else .next s := by
  simp [tick, hp, hr, hb]

theorem State.ports_cmdReady_iff (s : State) : s.ports.cmdReady = true ↔ s.busy = false ∧ s.inReset = false := by
  simp [State.ports]

theorem State.busyCycle_nil {s : State} (h : s.pending = []) : s.busyCycle = .next s.finish := by
  simp [State.busyCycle, h]

theorem State.responding_iff (s : State) : s.responding = true ↔ s.busy = true ∧ s.inReset = false ∧ s.pending = [] := by
  simp [State.responding, and_assoc]

/-- Settles O51: an edge of a busy block is `State.busyCycle`, which no port enters; an edge of a ready one admits the word or does nothing. -/
theorem busyIgnoresHost : Obligations.BusyIgnoresHost := by
  unfold Obligations.BusyIgnoresHost
  intro s p q hp hq
  refine ⟨fun hb hr => by rw [tick_busy hp hr hb, tick_busy hq hr hb], fun hready hv => ?_, fun hready hv => ?_⟩
  · obtain ⟨hb, hr⟩ := s.ports_cmdReady_iff.1 hready
    simp [tick_ready hp hr hb, hv]
  · obtain ⟨hb, hr⟩ := s.ports_cmdReady_iff.1 hready
    refine ⟨s.admitWord p.cmdWord, by simp [tick_ready hp hr hb, hv], ?_⟩
    rw [State.admitWord_eq]
    exact ⟨rfl, rfl, rfl, rfl, rfl, rfl, rfl, rfl⟩

/-- Settles O52: each code and polarity is read off its port, and a response is shown exactly when the next edge gives it. -/
theorem portsReport : Obligations.PortsReport := by
  unfold Obligations.PortsReport
  refine ⟨fun s => ⟨?_, ?_, ?_, fun _ => rfl, rfl, ?_, rfl, rfl, ?_, rfl, rfl, rfl⟩,
    fun s => ⟨s.responding_iff, fun h => ⟨?_, fun p hp => ?_⟩, fun h => ?_⟩⟩
  · simp only [State.ports]
    cases s.bus <;> rfl
  · simp only [State.ports]
    cases s.phase <;> rfl
  · simp only [State.ports]
    rcases s.fault with _ | _ | _ <;> rfl
  · simp only [State.ports]
    cases s.ale <;> rfl
  · simp only [State.ports]
    cases s.dir <;> simp [Direction.isOutput]
  · simp only [State.ports, h, if_true]
    cases s.response.status <;> rfl
  · obtain ⟨hb, hr, hnil⟩ := s.responding_iff.1 h
    exact ⟨s.finish, by rw [tick_busy hp hr hb, State.busyCycle_nil hnil], rfl, rfl, rfl⟩
  · simp [State.ports, h]

end Sys2Proof.Machine
end

section
/-! PROOFS. The clock machine runs a command as its meaning says: a micro-step takes its cycles, and the micro-steps of a command follow each other
to the response (40_timing_primitives.md R104, 41_bus_direction.md R118, 30_encoding.md R78). -/

namespace Sys2Proof.Machine

theorem runClock_cons_of_next {p : PortsIn} {s t : State} (h : tick p s = .next t) (ps : List PortsIn) :
    runClock (p :: ps) s = runClock ps t := by
  simp [runClock, h]

theorem runClock_singleton (p : PortsIn) (s : State) : runClock [p] s = tick p s := by
  cases h : tick p s <;> simp [runClock, h]

theorem runClock_append (ps qs : List PortsIn) (s : State) :
    runClock (ps ++ qs) s =
      match runClock ps s with
      | .next t => runClock qs t
      | .fault r => .fault r
      | .refused r => .refused r := by
  induction ps generalizing s with
  | nil => rfl
  | cons p ps ih =>
    simp only [List.cons_append, runClock]
    cases tick p s with
    | next t => exact ih t
    | fault r => rfl
    | refused r => rfl

/-! ### The cycles of one micro-step -/

theorem State.busyCycle_wait {s : State} {m : MicroStep} {ms : List MicroStep} {k : Nat} (h : s.pending = m :: ms)
    (ha : m.action = .wait k) :
    s.busyCycle = if s.countDown k = 0 then s.clockStep m else .next { s with dlyCnt := s.countDown k } := by
  simp [State.busyCycle, h, ha]

theorem State.countDown_of_ne_zero (s : State) (k : Nat) {c : Nat} (hc : c ≠ 0) :
    ({ s with dlyCnt := c } : State).countDown k = c - 1 := by
  simp [State.countDown, hc]

theorem State.countDown_of_dlyCnt_zero {s : State} (h : s.dlyCnt = 0) (k : Nat) : s.countDown k = k * s.cfg.nShort - 1 := by
  simp [State.countDown, h]

/-- The end of a wait does not depend on the count: the wait sets it to zero. -/
theorem State.clockStep_wait_dlyCnt {m : MicroStep} {k : Nat} (ha : m.action = .wait k) (s : State) (c : Nat) :
    ({ s with dlyCnt := c } : State).clockStep m = s.clockStep m := by
  simp [State.clockStep, State.microStep, State.act, ha, State.wait, State.emit]

/-- A wait occupies the cycles its count still has (40_timing_primitives.md R104). -/
theorem runClock_wait {s : State} {m : MicroStep} {ms : List MicroStep} {k : Nat} {ps : List PortsIn} (hb : s.busy = true)
    (hr : s.inReset = false) (hm : s.pending = m :: ms) (ha : m.action = .wait k) (hps : ∀ p ∈ ps, p.rstN = true)
    (hlen : ps.length = s.countDown k + 1) : runClock ps s = s.clockStep m := by
  induction ps generalizing s with
  | nil => simp at hlen
  | cons p ps ih =>
    simp only [List.length_cons, Nat.add_right_cancel_iff] at hlen
    have htick : tick p s = s.busyCycle := tick_busy (hps p (by simp)) hr hb
    rw [State.busyCycle_wait hm ha] at htick
    by_cases hc : s.countDown k = 0
    · obtain rfl : ps = [] := List.length_eq_zero_iff.1 (hlen.trans hc)
      rw [runClock_singleton, htick, if_pos hc]
    · rw [if_neg hc] at htick
      rw [runClock_cons_of_next htick, ← State.clockStep_wait_dlyCnt ha s (s.countDown k)]
      refine ih hb hr hm (fun q hq => hps q (by simp [hq])) ?_
      rw [State.countDown_of_ne_zero s k hc]
      omega

/-- A micro-step happens at the end of its cycles (41_bus_direction.md R118). -/
theorem runClock_microStep {s : State} {m : MicroStep} {ms : List MicroStep} {ps : List PortsIn} (hb : s.busy = true)
    (hr : s.inReset = false) (hd : s.dlyCnt = 0) (hm : s.pending = m :: ms) (hps : ∀ p ∈ ps, p.rstN = true)
    (hpos : 1 ≤ stepCycles s.cfg.nShort m) (hlen : ps.length = stepCycles s.cfg.nShort m) : runClock ps s = s.clockStep m := by
  cases ha : m.action with
  | wait k =>
    refine runClock_wait hb hr hm ha hps ?_
    simp only [stepCycles, ha] at hpos hlen
    rw [State.countDown_of_dlyCnt_zero hd]
    omega
  | _ =>
    simp only [stepCycles, ha, List.length_eq_one_iff] at hlen
    obtain ⟨p, rfl⟩ := hlen
    rw [runClock_singleton, tick_busy (hps p (by simp)) hr hb]
    simp [State.busyCycle, hm, ha]

/-! ### The cycles of a command -/

/-- A pin action leaves `dly_cnt` at zero (40_timing_primitives.md R104). -/
theorem State.act_dlyCnt {s : State} (h : s.dlyCnt = 0) (a : PinAction) : (s.act a).dlyCnt = 0 := by
  cases a <;> simp [State.act, h]

theorem State.resume_cons {s : State} {m : MicroStep} {ms : List MicroStep} (hu : 1 ≤ s.ustep) (h : s.pending = m :: ms) :
    s.resume = if (s.microStep m).contention then .fault .busContention else (s.microStep m).resume := by
  cases hc : (s.microStep m).contention <;> simp [State.resume, h, runSteps, State.pending_microStep hu h, hc]

/-- Every delay of a command waits at least one unit (40_timing_primitives.md R101). -/
theorem wait_mem_pinActions {i : Instr} {k : Nat} (h : .wait k ∈ pinActions i) : 1 ≤ k := by
  cases i with
  | delay cls => cases cls <;> simp_all [pinActions, delayUnits, Config.longMult]
  | readByte a => rcases (by simpa [pinActions] using h : k = 1 ∨ k = 3) with rfl | rfl <;> decide
  | _ => simp_all [pinActions]

theorem stepCycles_pos {i : Instr} {m : MicroStep} (h : m ∈ microSteps i) {n : Nat} (hn : 1 ≤ n) : 1 ≤ stepCycles n m := by
  have hmem : m.action ∈ pinActions i := action_mem_pinActions h
  cases ha : m.action with
  | wait k => simpa [stepCycles, ha] using Nat.mul_le_mul (wait_mem_pinActions (ha ▸ hmem)) hn
  | _ => simp [stepCycles, ha]

/-- The micro-steps to come are micro-steps of a command (10_state.md R20). -/
theorem State.mem_microSteps_of_mem_pending {s : State} {m : MicroStep} (h : m ∈ s.pending) : ∃ i, m ∈ microSteps i := by
  cases hf : s.fault with
  | some f => simp [State.pending_of_fault hf] at h
  | none =>
    cases hd : decodeWord s.cmdWord with
    | error e => simp [State.pending_of_error hd] at h
    | ok i => exact ⟨i, List.mem_of_mem_drop (State.pending_of_ok hf hd ▸ h)⟩

/-- The cycles of the micro-steps to come and of the response, without reset, are the rest of the command. -/
theorem runClock_eq_resume {s : State} {ps : List PortsIn} (hb : s.busy = true) (hr : s.inReset = false) (hu : 1 ≤ s.ustep)
    (hd : s.dlyCnt = 0) (hn : 1 ≤ s.cfg.nShort) (hps : ∀ p ∈ ps, p.rstN = true)
    (hlen : ps.length = listCycles s.cfg.nShort s.pending + 1) : runClock ps s = s.resume := by
  induction hm : s.pending generalizing s ps with
  | nil =>
    obtain ⟨p, rfl⟩ : ∃ p, ps = [p] := List.length_eq_one_iff.1 (by simpa [hm, listCycles] using hlen)
    rw [runClock_singleton, tick_busy (hps p (by simp)) hr hb, State.busyCycle_nil hm]
    simp [State.resume, hm, runSteps]
  | cons m ms ih =>
    simp only [hm, listCycles] at hlen
    obtain ⟨i, hi⟩ := State.mem_microSteps_of_mem_pending (s := s) (m := m) (by simp [hm])
    have hpos : 1 ≤ stepCycles s.cfg.nShort m := stepCycles_pos hi hn
    have hfirst : runClock (ps.take (stepCycles s.cfg.nShort m)) s = s.clockStep m :=
      runClock_microStep hb hr hd hm (fun p hp => hps p (List.mem_of_mem_take hp)) hpos (by rw [List.length_take]; omega)
    have hpend : (s.microStep m).pending = ms := State.pending_microStep hu hm
    rw [← List.take_append_drop (stepCycles s.cfg.nShort m) ps, runClock_append, hfirst, State.resume_cons hu hm, State.clockStep]
    cases hc : (s.microStep m).contention with
    | true => rfl
    | false =>
      refine ih (by simpa using hb) (by simpa using hr) (by simp) (State.act_dlyCnt hd _) (by simpa using hn)
        (fun p hp => hps p (List.mem_of_mem_drop hp)) ?_ hpend
      rw [hpend, State.microStep_cfg, State.act_cfg, List.length_drop]
      omega

/-- Settles O49: the first edge admits the word, the others run its micro-steps and give the response, and a command in one step is just that. -/
theorem clockRunsCommand : Obligations.ClockRunsCommand := by
  unfold Obligations.ClockRunsCommand
  intro s w ps hbound hr hwf hps hlen
  obtain ⟨hrest, hb, -⟩ := s.atBoundary_iff.1 hbound
  obtain ⟨hdly, -⟩ := s.pinsAtRest_iff.1 hrest
  obtain ⟨hshort, -⟩ : 1 ≤ s.cfg.nShort ∧ 1 ≤ s.cfg.chunk := by simpa [Config.wellFormed] using hwf
  have htick : tick ⟨true, true, w⟩ s = .next (s.admitWord w) := by simp [tick_ready (p := ⟨true, true, w⟩) rfl hr hb]
  have hcfg : (s.admitWord w).cfg = s.cfg := by rw [State.admitWord_eq]; rfl
  have hdly' : (s.admitWord w).dlyCnt = 0 := by rw [State.admitWord_eq]; exact hdly
  obtain ⟨hbusy, hustep, hout, -⟩ := s.admitWord_frame w
  rw [runClock_cons_of_next htick, State.issue_eq_resume]
  exact runClock_eq_resume hbusy (hout.trans hr) hustep.ge hdly' (hcfg ▸ hshort) hps (by rw [hcfg, hlen])

end Sys2Proof.Machine
end

section
/-! PROOFS. DELAY as a whole command, and the count of a wait in the clock machine (40_timing_primitives.md R101, R103, R104). -/

namespace Sys2Proof.Machine

/-- Settles O19: DELAY passes its checks, its one micro-step is the wait of its class, and the count it leaves at zero was zero at rest. -/
theorem delayWaitsOnly : Obligations.DelayWaitsOnly := by
  unfold Obligations.DelayWaitsOnly
  intro s c ⟨⟨hrest, hfault⟩, hprim⟩
  obtain ⟨hdly, -⟩ := s.pinsAtRest_iff.1 hrest
  have hacc : (Instr.delay c).acceptedBy s.cfg = true := by simp [Instr.acceptedBy, hprim]
  refine ⟨_, exec_runs hfault hacc rfl (run_delay (State.pinsAtRest_contention hrest) c), ⟨rfl, rfl, rfl⟩, ?emitted,
    ?record, ⟨rfl, rfl, fun _ => rfl⟩, ⟨rfl, rfl⟩, ⟨rfl, rfl⟩, rfl, rfl, rfl⟩
  case emitted => cases c <;> rfl
  case record => simp [KeepsRecord, hdly]

/-- A cycle of a wait that is not its last writes the count and nothing else (40_timing_primitives.md R104). -/
theorem tick_wait_counting {s : State} {m : MicroStep} {ms : List MicroStep} {k : Nat} {p : PortsIn} (hb : s.busy = true)
    (hr : s.inReset = false) (hm : s.pending = m :: ms) (ha : m.action = .wait k) (hp : p.rstN = true)
    (hc : s.countDown k ≠ 0) : tick p s = .next { s with dlyCnt := s.countDown k } := by
  rw [tick_busy hp hr hb, State.busyCycle_wait hm ha, if_neg hc]

/-- A loaded count goes down by one in every cycle before the last of its wait (40_timing_primitives.md R104). -/
theorem runClock_counting {s : State} {m : MicroStep} {ms : List MicroStep} {k : Nat} {ps : List PortsIn} (hb : s.busy = true)
    (hr : s.inReset = false) (hm : s.pending = m :: ms) (ha : m.action = .wait k) (hps : ∀ p ∈ ps, p.rstN = true)
    {c : Nat} (hlen : ps.length < c) :
    runClock ps { s with dlyCnt := c } = .next { s with dlyCnt := c - ps.length } := by
  induction ps generalizing c with
  | nil => rfl
  | cons p ps ih =>
    simp only [List.length_cons] at hlen
    have hcount : ({ s with dlyCnt := c } : State).countDown k = c - 1 := s.countDown_of_ne_zero k (by omega)
    have htick := tick_wait_counting (s := { s with dlyCnt := c }) hb hr hm ha (hps p (by simp)) (by omega)
    rw [runClock_cons_of_next htick, hcount, ih (fun q hq => hps q (by simp [hq])) (by omega), List.length_cons,
      Nat.sub_sub, Nat.add_comm 1]

/-- The first cycle of a wait loads the count and takes one off it (40_timing_primitives.md R104; log 15). -/
theorem runClock_wait_counting {s : State} {m : MicroStep} {ms : List MicroStep} {k : Nat} {ps : List PortsIn}
    (hb : s.busy = true) (hr : s.inReset = false) (hd : s.dlyCnt = 0) (hm : s.pending = m :: ms) (ha : m.action = .wait k)
    (hps : ∀ p ∈ ps, p.rstN = true) (hpos : 1 ≤ ps.length) (hlen : ps.length < k * s.cfg.nShort) :
    runClock ps s = .next { s with dlyCnt := k * s.cfg.nShort - ps.length } := by
  cases ps with
  | nil => simp at hpos
  | cons p ps =>
    simp only [List.length_cons] at hlen
    have hcount : s.countDown k = k * s.cfg.nShort - 1 := State.countDown_of_dlyCnt_zero hd k
    have htick := tick_wait_counting hb hr hm ha (hps p (by simp)) (by omega)
    rw [runClock_cons_of_next htick, hcount, runClock_counting hb hr hm ha (fun q hq => hps q (by simp [hq])) (by omega),
      List.length_cons, Nat.sub_sub, Nat.add_comm 1]

/-- A wait moves no control line, so it leads to no contention (20_memory.md R43 (e)). -/
theorem State.clockStep_wait {m : MicroStep} {k : Nat} (ha : m.action = .wait k) {s : State} (hc : s.contention = false) :
    s.clockStep m = .next (s.microStep m) := by
  have hc' : (s.microStep m).contention = false := by simpa [State.contention, State.act, ha] using hc
  simp [State.clockStep, hc']

/-- Settles O48: before its last cycle a wait only counts down; its last cycle is the micro-step. -/
theorem waitCountsDown : Obligations.WaitCountsDown := by
  unfold Obligations.WaitCountsDown
  intro s m ms k ps hb hr hcont hd hm ha hpos hps
  refine ⟨runClock_wait_counting hb hr hd hm ha hps, fun hlen => ⟨?_, ?_, rfl, ?_⟩⟩
  · have hcycles : ps.length = s.countDown k + 1 := by rw [State.countDown_of_dlyCnt_zero hd]; omega
    rw [runClock_wait hb hr hm ha hps hcycles, State.clockStep_wait ha hcont]
  · simp [State.act, ha]
  · simp [State.act, ha]

end Sys2Proof.Machine
end

section
/-! PROOFS. The primitives of the bus direction controller from a ready state: which of them run, and what each does and leaves unchanged
(41_bus_direction.md R110 to R117; 20_memory.md R43 to R48, R57, R58). -/

namespace Sys2Proof.Machine

/-! ### A primitive from a ready state -/

/-- With the primitives accepted every command is (30_encoding.md R76). -/
theorem acceptedBy_of_primEn {c : Config} (h : c.primEn = true) (i : Instr) : i.acceptedBy c = true := by
  simp [Instr.acceptedBy, h]

theorem State.ReadyForPrimitive.latched {s : State} (h : s.ReadyForPrimitive) : s.ale = .latched :=
  State.pinsAtRest_latched h.1.1

/-- A command that meets its precondition runs to its answer; the pins are at rest at both ends of the run, so `phase` and `dly_cnt` are back,
and the rest of the record no micro-step writes (10_state.md R27, 30_encoding.md R77). -/
theorem State.ReadyForPrimitive.completes {s u : State} {i : Instr} (h : s.ReadyForPrimitive) (hp : precondition i s = true)
    (hr : runSteps (microSteps i) s = .next u) :
    ∃ t, t = u.answer .ok (resultValue i u) ∧ exec i s = .next t ∧ Answered s t .ok (resultValue i u) ∧ KeepsRecord s t := by
  obtain ⟨⟨hrest, hfault⟩, hprim⟩ := h
  obtain ⟨u', hr', hrest'⟩ := (tableRun_microSteps hrest hp).runSteps
  obtain rfl : u' = u := by simpa [hr] using hr'.symm
  obtain ⟨hdly, hphase, -⟩ := s.pinsAtRest_iff.1 hrest
  obtain ⟨hdly', hphase', -⟩ := u'.pinsAtRest_iff.1 hrest'
  obtain ⟨hcfg, hce, hop, hdata, harg, hf, hcw, -, hout, hmoves, hresp⟩ := runSteps_keeps hr
  refine ⟨_, rfl, exec_runs hfault (acceptedBy_of_primEn hprim i) hp hr, ⟨?_, rfl, rfl⟩,
    hcfg, hce, hop, hdata, harg, hf, hcw, hphase'.trans hphase.symm, hdly'.trans hdly.symm, hout, hmoves⟩
  rw [State.answer_responses, hresp]

/-! ### The legality table (41_bus_direction.md R117) -/

/-- With the pins at rest the row of `bus` decides each precondition: the table of R117 is the preconditions read along the table of R12. -/
theorem precondition_eq_legalAt {s : State} (h : s.pinsAtRest = true) (i : Instr) : precondition i s = legalAt i s.bus := by
  obtain ⟨-, -, -, -, hrow⟩ := s.pinsAtRest_iff.1 h
  rcases hrow with ⟨hb, hd, -⟩ | ⟨hb, hd, -⟩ | ⟨hb, hd, -⟩ | ⟨hb, hd, -⟩ <;>
    cases i <;> simp [precondition, drivePre, samplePre, latchAddrPre, legalAt, hb, hd]

/-- Settles O16: the table is the precondition; a command that meets it runs to its answer, one that does not faults at once. -/
theorem legalityTable : Obligations.LegalityTable := by
  unfold Obligations.LegalityTable
  intro s i h
  have ⟨⟨hrest, hfault⟩, hprim⟩ := h
  rw [← precondition_eq_legalAt hrest i]
  refine ⟨fun hp => ?_, fun hp => ?_⟩
  · obtain ⟨u, hr, -⟩ := (tableRun_microSteps hrest hp).runSteps
    obtain ⟨t, -, hexec, ⟨hresp, -⟩, hrecord⟩ := h.completes hp hr
    obtain ⟨-, -, -, -, -, hf, -⟩ := hrecord
    exact ⟨t, _, hexec, hf.trans hfault, hresp⟩
  · have hacc : (i.isPrimitive && !s.cfg.primEn) = false := (acceptedBy_iff i s.cfg).1 (acceptedBy_of_primEn hprim i)
    rw [exec_eq_perform, State.perform_violation hfault hacc hp, State.raise_none hfault]
    exact ⟨_, rfl, rfl, rfl⟩

/-! ### The commands that turn the lines -/

/-- Settles O20, from the run of PREP_ADDR. -/
theorem prepAddrTurnsLinesOut : Obligations.PrepAddrTurnsLinesOut := by
  unfold Obligations.PrepAddrTurnsLinesOut
  intro s h
  obtain ⟨_, rfl, hexec, hans, hrecord⟩ := h.completes (i := .prepAddr) rfl (run_prepAddr h.latched)
  exact ⟨_, hexec, hans, rfl, rfl, rfl, rfl, hrecord, ⟨rfl, rfl, fun _ => rfl⟩, ⟨rfl, rfl⟩, ⟨rfl, rfl⟩⟩

/-- Settles O21, from the run of DRIVE, whose precondition is the direction given. -/
theorem driveWritesLines : Obligations.DriveWritesLines := by
  unfold Obligations.DriveWritesLines
  intro s arg h hd
  obtain ⟨_, rfl, hexec, hans, hrecord⟩ := h.completes (i := .drive arg) (decide_eq_true hd)
    (run_drive h.latched (State.pinsAtRest_contention h.1.1) arg)
  exact ⟨_, hexec, hans, rfl, rfl, rfl, rfl, rfl, rfl, hrecord, ⟨rfl, rfl, fun _ => rfl⟩, ⟨rfl, rfl⟩⟩

/-- Settles O22, from the run of PREP_READ. -/
theorem prepReadEnablesDevice : Obligations.PrepReadEnablesDevice := by
  unfold Obligations.PrepReadEnablesDevice
  intro s h
  obtain ⟨_, rfl, hexec, hans, hrecord⟩ := h.completes (i := .prepRead) rfl (run_prepRead h.latched)
  exact ⟨_, hexec, hans, rfl, rfl, rfl, rfl, rfl, hrecord, ⟨rfl, rfl, fun _ => rfl⟩, ⟨rfl, rfl⟩, ⟨rfl, rfl⟩⟩

/-- Settles O26, from the run of BUS_IDLE; Write-Enable and the latch were idle at rest. -/
theorem busIdleReleasesLines : Obligations.BusIdleReleasesLines := by
  unfold Obligations.BusIdleReleasesLines
  intro s h
  obtain ⟨-, -, hwe, hale, -⟩ := s.pinsAtRest_iff.1 h.1.1
  obtain ⟨_, rfl, hexec, hans, hrecord⟩ := h.completes (i := .busIdle) rfl (run_busIdle hale)
  exact ⟨_, hexec, hans, rfl, ⟨rfl, rfl, rfl, hwe, hale⟩, hrecord, ⟨rfl, rfl, fun _ => rfl⟩, ⟨rfl, rfl⟩, ⟨rfl, rfl⟩⟩

/-! ### SAMPLE (20_memory.md R43, R46, R57, R58) -/

/-- The device's byte on the data lane under the twelve free lines, as bits (20_memory.md R58). -/
theorem withDataLane_eq_or (free : Lines) (b : Byte) : withDataLane free b = free &&& 0xFFF00#20 ||| b.setWidth 20 := by
  have hmask : ∀ j < 20, (0xFFF00#20).getLsbD j = decide (8 ≤ j) := by decide
  apply BitVec.eq_of_getLsbD_eq
  intro i hi
  simp only [withDataLane, BitVec.getLsbD_append, BitVec.getLsbD_extractLsb', BitVec.getLsbD_or, BitVec.getLsbD_and,
    BitVec.getLsbD_setWidth, hmask i hi]
  by_cases hlow : i < 8
  · simp [hlow, hi]
  · simp [hlow, show i - 8 < 12 by omega, show 8 + (i - 8) = i by omega, show 8 ≤ i by omega]

theorem State.dataValid_iff (s : State) :
    s.dataValid = true ↔
      s.doe = true ∧ s.ce = true ∧ s.dev.stuck = false ∧ Config.accUnits ≤ s.sinceValid ∧ s.cfg.accessOK = true := by
  simp [State.dataValid, State.deviceDrives, and_assoc]

theorem State.level_of_dataValid {s : State} (hd : s.dir = .input) (hv : s.dataValid = true) :
    s.level = withDataLane (Config.draw20 s.draws) (s.dev.read s.devAlatch) := by
  simp [State.level, hd, hv]

theorem State.level_of_not_dataValid {s : State} (hd : s.dir = .input) (hv : ¬ s.dataValid = true) :
    s.level = Config.draw20 s.draws := by
  simp [State.level, hd, hv]

/-- Settles O23: SAMPLE answers the level of the lines: the device's byte under free lines while its data is valid, else a free value. -/
theorem sampleReadsLines : Obligations.SampleReadsLines := by
  unfold Obligations.SampleReadsLines
  intro s h hd
  obtain ⟨_, rfl, hexec, hans, hrecord⟩ := h.completes (i := .sample) (decide_eq_true hd) (run_sample hd)
  refine ⟨_, hexec, hans, rfl, ?valid, fun hfree => State.level_of_not_dataValid hd ?free, rfl, rfl, rfl, rfl, rfl,
    hrecord, ⟨rfl, rfl, fun _ => rfl⟩, ⟨rfl, rfl⟩⟩
  case valid =>
    intro hdoe hce hstuck hunits ht
    obtain ⟨-, -, haccess⟩ := (timingOK_iff s.cfg).1 ht
    have hvalid : s.dataValid = true := s.dataValid_iff.2 ⟨hdoe, hce, hstuck, hunits, haccess⟩
    exact (State.level_of_dataValid hd hvalid).trans (withDataLane_eq_or _ _)
  case free =>
    intro hvalid
    obtain ⟨hdoe, hce, hstuck, hunits, -⟩ := s.dataValid_iff.1 hvalid
    have henough : ¬ s.sinceValid < 3 := Nat.not_lt.2 hunits
    simp [hdoe, hce, hstuck, henough] at hfree

/-! ### PREP_WRITE (20_memory.md R47, R48; 92_eei_decisions.md D18, log 28) -/

theorem writtenDevice_of_selected {s : State} (hc : s.ce = true) (hk : s.cfg.writePulseOK = true) (data : Byte) :
    writtenDevice s data = s.dev.write s.devAlatch data := by
  simp [writtenDevice, hc, hk]

theorem writtenDevice_of_unselected {s : State} (hc : s.ce = false) (data : Byte) : writtenDevice s data = s.dev := by
  simp [writtenDevice, hc]

/-- Settles O24: the run of PREP_WRITE leaves `writtenDevice`, which is `DevWrite` with the device selected and in time. -/
theorem prepWriteStoresByte : Obligations.PrepWriteStoresByte := by
  unfold Obligations.PrepWriteStoresByte
  intro s data h
  obtain ⟨_, rfl, hexec, hans, hrecord⟩ := h.completes (i := .prepWrite data) rfl (run_prepWrite h.latched data)
  have hdev (hc : s.ce = true) (ht : s.TimingOK) : writtenDevice s data = s.dev.write s.devAlatch data := by
    obtain ⟨-, hpulse, -⟩ := (timingOK_iff s.cfg).1 ht
    exact writtenDevice_of_selected hc hpulse data
  refine ⟨_, hexec, hans, rfl, ⟨rfl, rfl, rfl, rfl, h.latched⟩, rfl, rfl, rfl, hrecord, hdev, ?ram, ?rom,
    fun hc => writtenDevice_of_unselected hc data⟩
  case ram =>
    intro hc ht hram a
    exact (congrArg (Device.read · a) (hdev hc ht)).trans (Device.read_write_ram hram _ _ _)
  case rom =>
    intro hc ht hrom a
    exact congrArg (Device.read · a) ((hdev hc ht).trans (Device.write_rom hrom _ _))

end Sys2Proof.Machine
end

section
/-! PROOFS. LATCH_ADDR from a ready state, and the frozen latch through every later pin event (42_address_latch.md R130, R131; 20_memory.md R44). -/

namespace Sys2Proof.Machine

/-- The row `AddressDrive` of the table: the controller alone drives the lines (10_state.md R12). -/
theorem State.pinsAtRest_addressDrive {s : State} (h : s.pinsAtRest = true) (hb : s.bus = .addressDrive) :
    s.dir = .output ∧ s.doe = false := by
  obtain ⟨-, -, -, -, hrow⟩ := s.pinsAtRest_iff.1 h
  simpa [hb] using hrow

/-- Settles O25, from the run of LATCH_ADDR; its precondition is the bus state given, and R106 (a) is part of the timing premise. -/
theorem latchAddrLatches : Obligations.LatchAddrLatches := by
  unfold Obligations.LatchAddrLatches
  intro s arg h hb
  have ⟨⟨hrest, _⟩, _⟩ := h
  obtain ⟨hd, ho⟩ := State.pinsAtRest_addressDrive hrest hb
  obtain ⟨_, rfl, hexec, hans, hrecord⟩ := h.completes (i := .latchAddr arg) (decide_eq_true hb)
    (run_latchAddr h.latched hd ho arg)
  refine ⟨_, hexec, hans, rfl, rfl, rfl, rfl, rfl, rfl, fun ht => ?_, rfl, fun _ => rfl, hrecord, ⟨rfl, rfl⟩⟩
  obtain ⟨hsettle, -, -⟩ := (timingOK_iff s.cfg).1 ht
  exact if_pos hsettle

/-! ### The frozen latch -/

@[simp] theorem State.endPulse_devAlatch (s : State) : s.endPulse.devAlatch = s.devAlatch := by
  unfold State.endPulse
  repeat' split
  all_goals rfl

/-- A frozen latch keeps its address through every pin action but the one that opens it (20_memory.md R44 (c)). -/
theorem State.act_of_latched {a : PinAction} (ha : a ≠ .setAle .transparent) {s : State} (h : s.ale = .latched) :
    (s.act a).ale = .latched ∧ (s.act a).devAlatch = s.devAlatch := by
  cases a with
  | setDoe b => simp [State.act, State.setDoe_latched h, h]
  | setDir d => simp [State.act, State.setDir_latched h, h]
  | setAle l =>
    cases l with
    | latched => simp [State.act, State.setAle, State.freeze_latched h]
    | transparent => exact absurd rfl ha
  | setWe b => cases b <;> simp [State.act, State.setWe, h]
  | drive v => simp [State.act, State.drive_latched h, h]
  | wait k => exact ⟨h, rfl⟩
  | sample => exact ⟨h, rfl⟩

/-- So it does through every list of micro-steps without that action (42_address_latch.md R131). -/
theorem runSteps_of_latched {ms : List MicroStep} {s t : State} (hms : ∀ m ∈ ms, m.action ≠ .setAle .transparent)
    (h : s.ale = .latched) (hr : runSteps ms s = .next t) : t.ale = .latched ∧ t.devAlatch = s.devAlatch := by
  refine runSteps_induct (P := fun u => u.ale = .latched ∧ u.devAlatch = s.devAlatch) hr ⟨h, rfl⟩ fun m hm u ⟨hale, hlatch⟩ => ?_
  obtain ⟨hale', hlatch'⟩ := State.act_of_latched (hms m hm) hale
  exact ⟨hale', hlatch'.trans hlatch⟩

/-- Settles O35: LATCH_ADDR ends with the latch frozen at the address, and a frozen latch stays. -/
theorem latchHoldsAddress : Obligations.LatchHoldsAddress := by
  unfold Obligations.LatchHoldsAddress
  intro s arg h hb ht
  obtain ⟨t, hexec, -, -, -, -, -, -, -, hlatch, -, -, -, -, hale⟩ := latchAddrLatches s arg h hb
  refine ⟨t, hexec, hlatch ht, fun ms u hms hr => ?_⟩
  obtain ⟨-, hkeep⟩ := runSteps_of_latched hms (hale.trans h.latched) hr
  exact hkeep.trans (hlatch ht)

end Sys2Proof.Machine
end

section
/-! PROOFS. The pin events of a run, in their order: what an address operand puts on the lines, and where each `SetALE` of the trace stands
(42_address_latch.md R132, R134; 00_scope.md R5). -/

namespace Sys2Proof.Machine

/-- The pin events of micro-steps run from a state, each at the state its micro-step finds. -/
def eventsAlong : List MicroStep → State → List PinEvent
  | [], _ => []
  | m :: ms, s => m.action.event s :: eventsAlong ms (s.microStep m)

theorem runSteps_trace_eq {ms : List MicroStep} {s t : State} (h : runSteps ms s = .next t) :
    t.trace = s.trace ++ eventsAlong ms s := by
  induction ms generalizing s with
  | nil =>
    rw [runSteps, Host.Outcome.next.injEq] at h
    simp [h, eventsAlong]
  | cons m ms ih =>
    simp only [runSteps] at h
    split at h
    · simp at h
    · rw [ih h, State.microStep_trace, State.act_trace, eventsAlong, List.append_assoc, List.singleton_append]

/-- A decoded word adds the events of all its micro-steps, or leaves a fault recorded and adds none (60_exceptions.md R186, R187). -/
theorem State.issue_trace_cases {w : CmdWord} {i : Instr} {s t : State} (hd : decodeWord w = .ok i) (h : s.issue w = .next t) :
    (t.fault ≠ none ∧ t.trace = s.trace) ∨ t.trace = s.trace ++ eventsAlong (microSteps i) (s.accept w) := by
  rcases State.issue_cases hd h with ⟨f, hf, rfl⟩ | ⟨-, -, rfl⟩ | ⟨-, -, -, rfl⟩ | ⟨-, -, -, u, hu, rfl⟩
  · exact .inl ⟨by simp [State.answeredAtOnce, hf], rfl⟩
  · exact .inl ⟨by simp [State.faultedBy], rfl⟩
  · exact .inl ⟨by simp [State.faultedBy], rfl⟩
  · exact .inr (runSteps_trace_eq hu)

/-! ### Address operands (42_address_latch.md R132) -/

/-- The `k`-th event a command adds that ends with no fault. -/
theorem State.issue_event {i : Instr} {s t : State} (h : s.issue (encode i) = .next t) (hf : t.fault = none) (k : Nat) :
    t.trace[s.trace.length + k]? = (eventsAlong (microSteps i) (s.accept (encode i)))[k]? := by
  obtain ⟨hne, -⟩ | htrace := State.issue_trace_cases (decodeWord_encode i) h
  · exact absurd hf hne
  · rw [htrace, List.getElem?_append_right (Nat.le_add_right _ _), Nat.add_sub_cancel_left]

/-- `ARG[31:20]` reaches no micro-step, precondition or answer of the four commands. -/
theorem exec_eq_of_deviceAddress_eq {a a' : Arg} (h : deviceAddress a = deviceAddress a') (data : Byte) :
    exec (.latchAddr a) = exec (.latchAddr a') ∧ exec (.drive a) = exec (.drive a') ∧
      exec (.readByte a) = exec (.readByte a') ∧ exec (.writeByte a data) = exec (.writeByte a' data) := by
  have hlatch : latchAddrSteps a = latchAddrSteps a' := by simp only [latchAddrSteps, h]
  have hdrive : driveSteps a = driveSteps a' := by
    simp only [driveSteps, show lineValue a = lineValue a' from h]
  have haddr : addressSteps a = addressSteps a' := by simp only [addressSteps, hlatch]
  refine ⟨?_, ?_, ?_, ?_⟩ <;> funext s
  · simp only [exec, execLatchAddr, hlatch]
  · simp only [exec, execDrive, hdrive]
  · simp only [exec, execReadByte, readByteSteps, haddr]
  · simp only [exec, execWriteByte, writeByteSteps, haddr]

/-- A command does the same whatever the holding registers and the recorded word hold, but for those (10_state.md R19). -/
theorem exec_withWordOf {i : Instr} {s t : State} (h : exec i s = .next t) (v : State) :
    ∃ t', exec i (s.withWordOf v) = .next t' ∧ SameButCommandWord t t' := by
  rw [exec_eq_perform] at h ⊢
  have hpre : precondition i (s.withWordOf v) = precondition i s := by cases i <;> rfl
  cases hf : s.fault with
  | some f =>
    rw [State.perform_refused hf, Host.Outcome.next.injEq] at h
    exact ⟨_, State.perform_refused (s := s.withWordOf v) hf _ _ _ _, h ▸ rfl⟩
  | none =>
    rcases State.perform_cases hf h with ⟨hp, rfl⟩ | ⟨hp, hq, rfl⟩ | ⟨hp, hq, u, hu, rfl⟩
    · refine ⟨_, State.perform_illegal (s := s.withWordOf v) hf hp _ _ _, ?_⟩
      rw [State.raise_none hf, State.raise_none (s := s.withWordOf v) hf]
      rfl
    · refine ⟨_, State.perform_violation (s := s.withWordOf v) hf hp (hpre.trans hq) _ _, ?_⟩
      rw [State.raise_none hf, State.raise_none (s := s.withWordOf v) hf]
      rfl
    · rw [State.perform_runs (s := s.withWordOf v) hf hp (hpre.trans hq), runSteps_withWordOf hu v]
      refine ⟨_, rfl, ?_⟩
      rw [resultValue_withWordOf]
      rfl

/-- Assembled commands with one meaning do the same, but for the holding registers and the recorded command word. -/
theorem State.issue_encode_sameButCommandWord {i i' : Instr} (hexec : exec i = exec i') {s t : State}
    (h : s.issue (encode i) = .next t) : ∃ t', s.issue (encode i') = .next t' ∧ SameButCommandWord t t' := by
  rw [State.issue_encode] at h
  rw [State.issue_encode, ← hexec]
  exact exec_withWordOf h (s.accept (encode i'))

/-- Settles O34: the events are those of the micro-steps, which hold the truncated operand alone. -/
theorem addressMasking : Obligations.AddressMasking := by
  unfold Obligations.AddressMasking
  refine ⟨fun s t a data hf => ?_, fun s a a' data h => ?_⟩
  · exact ⟨fun h => State.issue_event h hf 1, fun h => State.issue_event h hf 0, fun h => State.issue_event h hf 3,
      fun h => State.issue_event h hf 3⟩
  · obtain ⟨hlatch, hdrive, hread, hwrite⟩ := exec_eq_of_deviceAddress_eq h data
    exact ⟨fun _ => State.issue_encode_sameButCommandWord hlatch, fun _ => State.issue_encode_sameButCommandWord hdrive,
      fun _ => State.issue_encode_sameButCommandWord hread, fun _ => State.issue_encode_sameButCommandWord hwrite⟩

/-! ### Address-latch sequences (42_address_latch.md R133, R134) -/

theorem latchSequenced_append {xs ys : List PinEvent} (hx : latchSequenced xs = true) (hy : latchSequenced ys = true) :
    latchSequenced (xs ++ ys) = true := by
  fun_induction latchSequenced xs with
  | case1 => exact hy
  | case2 a k rest ih =>
    obtain ⟨hk, hrest⟩ := Bool.and_eq_true_iff.1 hx
    exact Bool.and_eq_true_iff.2 ⟨hk, ih hrest⟩
  | case3 => simp at hx
  | case10 _ ih => exact ih hx
  | _ _ _ ih => exact ih hx

/-- No command has a `SetALE` outside the micro-steps of LATCH_ADDR, which are one whole sequence (42_address_latch.md R133). -/
theorem latchSequenced_eventsAlong (i : Instr) (s : State) : latchSequenced (eventsAlong (microSteps i) s) = true := by
  cases i <;> rfl

/-- A reserved word adds no event (30_encoding.md R75). -/
theorem State.performReserved_trace (s : State) : s.performReserved.trace = s.trace := by
  cases hf : s.fault with
  | none => simp [State.performReserved, hf, State.raise_none hf]
  | some f => simp [State.performReserved, hf]

theorem State.issue_latchSequenced {w : CmdWord} {s t : State} (hs : latchSequenced s.trace = true)
    (h : s.issue w = .next t) : latchSequenced t.trace = true := by
  cases hd : decodeWord w with
  | error e =>
    rw [State.issue_error hd, Host.Outcome.next.injEq] at h
    rw [← h, State.performReserved_trace]
    exact hs
  | ok i =>
    obtain ⟨-, htrace⟩ | htrace := State.issue_trace_cases hd h
    · rwa [htrace]
    · rw [htrace]
      exact latchSequenced_append hs (latchSequenced_eventsAlong i _)

theorem State.hostMove_latchSequenced {m : HostMove} (hm : m.keepsOutOfReset = true) {s t : State}
    (hs : latchSequenced s.trace = true) (h : s.hostMove m = .next t) : latchSequenced t.trace = true := by
  cases m with
  | pause =>
    obtain rfl : s = t := by simpa [State.hostMove] using h
    exact hs
  | command w => exact State.issue_latchSequenced hs h
  | commandCut w n => simp [HostMove.keepsOutOfReset] at hm
  | reset => simp [HostMove.keepsOutOfReset] at hm

/-- Settles O44: at a boundary a step leaves reset, does nothing, or makes the host's next move, of which only a command adds events: whole sequences. -/
theorem latchSequencesOnly : Obligations.LatchSequencesOnly := by
  unfold Obligations.LatchSequencesOnly
  intro s t hinv hmoves hs h
  obtain ⟨-, hb, -⟩ := s.atBoundary_iff.1 (s.inv_iff.1 hinv).1
  cases hr : s.inReset with
  | true =>
    rw [step_inReset hr, Host.Outcome.next.injEq] at h
    exact h ▸ hs
  | false =>
    cases hm : s.moves with
    | nil =>
      rw [step_no_moves hr hb hm, Host.Outcome.next.injEq] at h
      exact h ▸ hs
    | cons m rest =>
      rw [step_move hr hb hm] at h
      exact State.hostMove_latchSequenced (hmoves m (by simp [hm])) (s := s.popMove rest) hs h

end Sys2Proof.Machine
end

section
/-! PROOFS. The three access commands from every boundary state: the run, the answer and the frame of each, the device's byte in a read, the pin traces, and
`phase` and `bus` along the micro-steps (43_byte_access.md R140 to R146). -/

namespace Sys2Proof.Machine

/-! ### An access from a ready state -/

/-- NOP, READ_BYTE and WRITE_BYTE have no precondition (43_byte_access.md R141 to R143). -/
theorem precondition_of_not_primitive {i : Instr} (h : i.isPrimitive = false) (s : State) : precondition i s = true := by
  cases i with
  | nop | readByte _ | writeByte _ _ => rfl
  | _ => simp [Instr.isPrimitive] at h

/-- An access always runs to its answer, ready for the next command; the pins are at rest at both ends of its run, so `phase` and `dly_cnt` are back,
and the rest of the record no micro-step writes (43_byte_access.md R145, 10_state.md R27). -/
theorem State.Ready.completes_access {s u : State} {i : Instr} (h : s.Ready) (hi : i.isPrimitive = false)
    (hr : runSteps (microSteps i) s = .next u) :
    ∃ t, t = u.answer .ok (resultValue i u) ∧ exec i s = .next t ∧ t.Ready ∧ Answered s t .ok (resultValue i u) ∧
      KeepsRecord s t := by
  obtain ⟨hrest, hfault⟩ := h
  have hp : precondition i s = true := precondition_of_not_primitive hi s
  obtain ⟨u', hr', hrest'⟩ := (tableRun_microSteps hrest hp).runSteps
  obtain rfl : u' = u := by simpa [hr] using hr'.symm
  obtain ⟨hdly, hphase, -⟩ := s.pinsAtRest_iff.1 hrest
  obtain ⟨hdly', hphase', -⟩ := u'.pinsAtRest_iff.1 hrest'
  obtain ⟨hcfg, hce, hop, hdata, harg, hf, hcw, -, hout, hmoves, hresp⟩ := runSteps_keeps hr
  refine ⟨_, rfl, exec_runs hfault (acceptedBy_of_not_primitive hi _) hp hr, ⟨hrest', hf.trans hfault⟩, ⟨?_, rfl, rfl⟩,
    hcfg, hce, hop, hdata, harg, hf, hcw, hphase'.trans hphase.symm, hdly'.trans hdly.symm, hout, hmoves⟩
  rw [State.answer_responses, hresp]

theorem State.Ready.latched {s : State} (h : s.Ready) : s.ale = .latched := State.pinsAtRest_latched h.1

/-- Settles O18: NOP has no micro-step, so its run is the state itself. -/
theorem nopAnswersOnly : Obligations.NopAnswersOnly := by
  unfold Obligations.NopAnswersOnly
  intro s hf
  have hrun : runSteps (microSteps .nop) s = .next s := rfl
  exact exec_runs hf (acceptedBy_of_not_primitive rfl _) rfl hrun

/-! ### READ_BYTE -/

/-- Settles O27, from the run of READ_BYTE; Write-Enable was idle at rest, and R106 (a) is part of the timing premise. -/
theorem readByteCompletes : Obligations.ReadByteCompletes := by
  unfold Obligations.ReadByteCompletes
  intro s arg h
  obtain ⟨-, -, hwe, hale, -⟩ := s.pinsAtRest_iff.1 h.1
  obtain ⟨_, rfl, hexec, -, hans, hrecord⟩ := h.completes_access (i := .readByte arg) rfl (run_readByte hale arg)
  refine ⟨_, hexec, hans, ⟨rfl, rfl, rfl, hwe, hale⟩, rfl, fun ht => ?_, rfl, fun _ => rfl, hrecord⟩
  obtain ⟨hsettle, -, -⟩ := (timingOK_iff s.cfg).1 ht
  exact if_pos hsettle

/-- Settles O29: READ_BYTE ends ready with the device and the parameters it found, so the second read is a first read again. -/
theorem readReturnsDeviceByte : Obligations.ReadReturnsDeviceByte := by
  unfold Obligations.ReadReturnsDeviceByte
  intro s arg h hc ht he
  obtain ⟨t, hexec, hresp⟩ := h.exec_readByte_valid hc ht he arg
  obtain ⟨_, rfl, hexec', hready, -⟩ := h.completes_access (i := .readByte arg) rfl (run_readByte h.latched arg)
  obtain rfl := Host.Outcome.next.inj (hexec'.symm.trans hexec)
  obtain ⟨u, hagain, hresp'⟩ := hready.exec_readByte_valid hc ht he arg
  exact ⟨_, hexec, hresp, u, hagain, hresp'⟩

/-- The sample of READ_BYTE looks at the parameters, Chip-Enable, the device and the number of free values used, at nothing else
(43_byte_access.md R141). -/
theorem readSample_congr {s u : State} (hcfg : s.cfg = u.cfg) (hce : s.ce = u.ce) (hdev : s.dev = u.dev)
    (hdraws : s.draws = u.draws) (arg : Arg) : readSample arg s = readSample arg u := by
  cases s
  cases u
  cases hcfg
  cases hce
  cases hdev
  cases hdraws
  rfl

/-- Settles O31: both reads answer the data lane of the one sample `readSample_congr` gives. -/
theorem readIndependentOfHistory : Obligations.ReadIndependentOfHistory := by
  unfold Obligations.ReadIndependentOfHistory
  intro s u arg hs hu hcfg hce hdev hdraws
  obtain ⟨t, hexec, -, hresp⟩ := hs.exec_readByte arg
  obtain ⟨v, hexec', -, hresp'⟩ := hu.exec_readByte arg
  rw [← readSample_congr hcfg hce hdev hdraws arg] at hresp'
  exact ⟨t, v, _, hexec, hexec', hresp, hresp'⟩

/-! ### WRITE_BYTE (92_eei_decisions.md D18, log 28) -/

/-- Settles O28: selected and in time the device is the written one `State.Ready.exec_writeByte` gives, and what it reads follows from its kind. -/
theorem writeByteCompletes : Obligations.WriteByteCompletes := by
  unfold Obligations.WriteByteCompletes
  intro s arg data h
  obtain ⟨t, ht, hexec, -, hans, hrecord⟩ := h.completes_access (i := .writeByte arg data) rfl (run_writeByte h.latched arg data)
  have hdev (hc : s.ce = true) (htime : s.TimingOK) : t.dev = s.dev.write (deviceAddress arg) data := by
    obtain ⟨t', hexec', -, -, -, hwritten, -⟩ := h.exec_writeByte hc htime arg data
    rwa [Host.Outcome.next.inj (hexec.symm.trans hexec')]
  subst ht
  refine ⟨_, hexec, hans, ⟨rfl, rfl, rfl, rfl, h.latched⟩, rfl, rfl, fun htime => ?latch, hrecord, hdev, ?ram, ?rom,
    fun hc => ?unselected⟩
  case latch =>
    obtain ⟨hsettle, -, -⟩ := (timingOK_iff s.cfg).1 htime
    exact if_pos hsettle
  case ram =>
    intro hc htime hram a
    rw [hdev hc htime]
    exact Device.read_write_ram hram _ _ _
  case rom =>
    intro hc htime hrom a
    rw [hdev hc htime, Device.write_rom hrom]
  case unselected =>
    rw [State.answer_dev, writtenDevice_of_unselected]
    exact hc

/-! ### The pin traces (43_byte_access.md R146) -/

/-- Settles O36: the runs of the two accesses add `readTrace` and `writeTrace`. -/
theorem accessTraces : Obligations.AccessTraces := by
  unfold Obligations.AccessTraces
  refine ⟨fun s arg h => ?_, fun s arg data h => ?_⟩
  · obtain ⟨_, rfl, hexec, -⟩ := h.completes_access (i := .readByte arg) rfl (run_readByte h.latched arg)
    exact ⟨_, _, hexec, rfl, rfl⟩
  · obtain ⟨_, rfl, hexec, -⟩ := h.completes_access (i := .writeByte arg data) rfl (run_writeByte h.latched arg data)
    exact ⟨_, hexec, rfl⟩

/-! ### Programs of accesses (43_byte_access.md R145) -/

/-- An access at the port is answered `OK` from every boundary state with no fault, and ends at one. -/
theorem State.issue_access {w : CmdWord} {i : Instr} {s : State} (hb : s.atBoundary = true) (hf : s.NoFault)
    (hd : decodeWord w = .ok i) (hi : i.isPrimitive = false) :
    ∃ t v, s.issue w = .next t ∧ t.atBoundary = true ∧ t.NoFault ∧ t.responses = s.responses ++ [⟨.ok, v⟩] := by
  obtain ⟨hrest, -, -⟩ := s.atBoundary_iff.1 hb
  have hready : (s.accept w).Ready := ⟨hrest, hf⟩
  obtain ⟨u, hr, -⟩ := (tableRun_microSteps hready.1 (precondition_of_not_primitive hi _)).runSteps
  obtain ⟨t, -, hexec, ⟨hrest', hf'⟩, ⟨hresp, hbusy, hustep⟩, -⟩ := hready.completes_access hi hr
  exact ⟨t, _, by rw [State.issue_ok hd, ← exec_eq_perform, hexec], t.atBoundary_iff.2 ⟨hrest', hbusy, hustep⟩, hf', hresp⟩

/-- Settles O17, by induction on the words: each access is answered and leaves a boundary state with no fault to the rest. -/
theorem accessesNeverFault : Obligations.AccessesNeverFault := by
  unfold Obligations.AccessesNeverFault
  intro ws
  induction ws with
  | nil => exact fun s hb hf _ => ⟨s, [], rfl, hf, hb, (List.append_nil _).symm, rfl, by simp⟩
  | cons w ws ih =>
    intro s hb hf hws
    obtain ⟨⟨i, hd, hi⟩, hrest⟩ := List.forall_mem_cons.1 hws
    obtain ⟨t, v, hissue, hb', hf', hresp⟩ := State.issue_access hb hf hd hi
    obtain ⟨u, rs, hall, hf'', hb'', hresp', hlen, hok⟩ := ih t hb' hf' hrest
    refine ⟨u, ⟨.ok, v⟩ :: rs, (issueAll_cons_of_next hissue ws).trans hall, hf'', hb'', ?_, by simp [hlen],
      List.forall_mem_cons.2 ⟨rfl, hok⟩⟩
    rw [hresp', hresp, List.append_assoc, List.singleton_append]

end Sys2Proof.Machine
end

section
/-! PROOFS. `phase` and `bus` after each micro-step (41_bus_direction.md R110, R112, R114, R115; 42_address_latch.md R130; 43_byte_access.md R140). -/

namespace Sys2Proof.Machine

/-- At rest the device's output is enabled in the row `DataRead` alone (10_state.md R12). -/
theorem State.pinsAtRest_doe {s : State} (h : s.pinsAtRest = true) : s.doe = decide (s.bus = .dataRead) := by
  obtain ⟨-, -, -, -, hrow⟩ := s.pinsAtRest_iff.1 h
  rcases hrow with ⟨hb, -, ho⟩ | ⟨hb, -, ho⟩ | ⟨hb, -, ho⟩ | ⟨hb, -, ho⟩ <;> simp [hb, ho]

/-- Settles O40, list by list: a pin action writes neither field, so each micro-step's own rules for `bus` and `phase` give the path; `doe` at the start,
which PREP_READ's first rule asks for, is the row of `bus`. -/
theorem ownerAfterEachMicroStep : Obligations.OwnerAfterEachMicroStep := by
  unfold Obligations.OwnerAfterEachMicroStep
  intro s a d h
  obtain ⟨-, hphase, -⟩ := s.pinsAtRest_iff.1 h
  have hdoe := State.pinsAtRest_doe h
  refine ⟨?prepAddr, ?prepRead, ?prepWrite, ?busIdle, ?latchAddr, ?readByte, ?writeByte⟩
  case prepAddr => simp [prepAddrSteps, ownerPath, BusRule.apply, hphase]
  case prepRead =>
    by_cases hb : s.bus = .dataRead <;> simp [prepReadSteps, ownerPath, State.act, BusRule.apply, hphase, hdoe, hb]
  case prepWrite => simp [prepWriteSteps, ownerPath, BusRule.apply, hphase]
  case busIdle => simp [busIdleSteps, ownerPath, BusRule.apply, hphase]
  case latchAddr =>
    intro hb
    simp [latchAddrSteps, ownerPath, BusRule.apply, hphase, hb]
  case readByte =>
    simp [readByteSteps, addressSteps, prepAddrSteps, latchAddrSteps, prepReadSteps, delaySteps, sampleSteps, busIdleSteps,
      enterAtFirst, enterAtLast, ownerPath, State.act, BusRule.apply, hphase]
  case writeByte =>
    simp [writeByteSteps, addressSteps, prepAddrSteps, latchAddrSteps, prepWriteSteps,
      enterAtFirst, enterAtLast, ownerPath, BusRule.apply, hphase]

end Sys2Proof.Machine
end

section
/-! PROOFS. The accesses as their lists of primitives: a command's handshake and `phase` are no part of what its micro-steps do at the pins, and at the pins
each access has the micro-steps of its primitives (43_byte_access.md R140, R147). -/

namespace Sys2Proof.Machine

/-! ### What no pin action looks at -/

/-- The state with the handshake, the holding registers, `phase` and the responses of another: what an access and its list of primitives write differently
on the way. -/
def State.withFrame (s v : State) : State :=
  { s with
    phase := v.phase
    curOp := v.curOp
    curData := v.curData
    curArg := v.curArg
    ustep := v.ustep
    busy := v.busy
    responses := v.responses }

theorem State.withFrame_ale (s v : State) : (s.withFrame v).ale = s.ale := rfl

theorem State.freeze_withFrame (s v : State) : (s.withFrame v).freeze = s.freeze.withFrame v := by
  unfold State.freeze
  cases hale : s.ale with
  | latched => simp only [State.withFrame_ale, hale]
  | transparent =>
    simp only [State.withFrame_ale, hale, apply_ite (State.withFrame · v)]
    rfl

theorem State.endPulse_withFrame (s v : State) : (s.withFrame v).endPulse = s.endPulse.withFrame v := by
  have hpulse : (s.withFrame v).pulse = s.pulse := rfl
  unfold State.endPulse
  cases hp : s.pulse <;> (simp only [hpulse, hp, apply_ite (State.withFrame · v)]; rfl)

theorem State.act_withFrame (s v : State) (a : PinAction) : (s.withFrame v).act a = (s.act a).withFrame v := by
  cases a with
  | setDoe _ | setDir _ | drive _ =>
    cases hale : s.ale <;>
      (simp only [State.act, State.setDoe, State.setDir, State.drive, State.follow, State.withFrame_ale, hale]; rfl)
  | setAle l =>
    cases l with
    | latched =>
      simp only [State.act, State.setAle, State.freeze_withFrame]
      rfl
    | transparent => rfl
  | setWe b =>
    cases b with
    | false =>
      simp only [State.act, State.setWe, State.endPulse_withFrame]
      rfl
    | true => rfl
  | wait k => rfl
  | sample => rfl

/-! ### Runs that are the same at the pins -/

/-- The two states are the same but for what no pin action looks at. -/
def SameAtPins (s t : State) : Prop := s.withFrame t = t

theorem SameAtPins.withFrame_eq {s t : State} (h : SameAtPins s t) : s.withFrame t = t := h

/-- What a micro-step does besides `phase`. -/
def MicroStep.atPins (m : MicroStep) : PinAction × BusRule := (m.action, m.bus)

theorem SameAtPins.microStep {s t : State} (h : SameAtPins s t) {m n : MicroStep} (hmn : m.atPins = n.atPins) :
    SameAtPins (s.microStep m) (t.microStep n) := by
  obtain ⟨ha, hb⟩ := Prod.mk.inj hmn
  have hact : t.act n.action = (s.act m.action).withFrame t := by rw [← ha, ← State.act_withFrame, h.withFrame_eq]
  have hbus : n.bus.apply (t.act n.action) = m.bus.apply (s.act m.action) := by
    rw [hact, hb]
    cases n.bus <;> rfl
  simp only [SameAtPins, State.microStep, hbus]
  rw [hact]
  rfl

theorem SameAtPins.contention {s t : State} (h : SameAtPins s t) : t.contention = s.contention := by
  rw [← h.withFrame_eq]
  rfl

/-- Lists with the same pin actions and the same writes of `bus` run alike at the pins. -/
theorem SameAtPins.runSteps {xs ys : List MicroStep} {s s' t : State} (h : SameAtPins s t)
    (hxy : xs.map MicroStep.atPins = ys.map MicroStep.atPins) (hr : Machine.runSteps xs s = .next s') :
    ∃ t', Machine.runSteps ys t = .next t' ∧ SameAtPins s' t' := by
  induction xs generalizing ys s t with
  | nil =>
    obtain rfl : ys = [] := by simpa using hxy.symm
    obtain rfl := Host.Outcome.next.inj hr
    exact ⟨t, rfl, h⟩
  | cons m ms ih =>
    obtain ⟨n, ns, rfl, hn, hns⟩ := List.map_eq_cons_iff.1 hxy.symm
    have hstep := h.microStep hn.symm
    rw [Machine.runSteps] at hr ⊢
    rw [hstep.contention]
    split at hr
    next => simp at hr
    next hc =>
      rw [if_neg hc]
      exact ih hstep hns.symm hr

theorem runSteps_append_of_next {xs : List MicroStep} {s t : State} (h : runSteps xs s = .next t) (ys : List MicroStep) :
    runSteps (xs ++ ys) s = runSteps ys t := by
  simp [runSteps_append, h]

/-! ### A primitive and its part of an access -/

theorem State.ReadyForPrimitive.accept {s : State} (h : s.ReadyForPrimitive) (w : CmdWord) : (s.accept w).ReadyForPrimitive := h

theorem issueAll_cons_of_exec {i : Instr} {s t : State} (h : exec i (s.accept (encode i)) = .next t) (ws : List CmdWord) :
    issueAll (encode i :: ws) s = issueAll ws t :=
  issueAll_cons_of_next ((State.issue_encode i s).trans h) ws

/-- A primitive that meets its precondition leaves the pins as any micro-steps with its pin actions do, ready for the next primitive. -/
theorem exec_sameAtPins {i : Instr} {s t p : State} {ys : List MicroStep} (hexec : exec i s = .next t)
    (hready : s.ReadyForPrimitive) (hp : precondition i s = true) (h : SameAtPins s p)
    (hys : (microSteps i).map MicroStep.atPins = ys.map MicroStep.atPins) :
    t.ReadyForPrimitive ∧ ∃ p', runSteps ys p = .next p' ∧ SameAtPins t p' := by
  obtain ⟨u, hrun, hrest⟩ := (tableRun_microSteps hready.1.1 hp).runSteps
  obtain ⟨t', ht, hexec', -, hcfg, -, -, -, -, hf, -⟩ := hready.completes hp hrun
  obtain rfl : t' = t := Host.Outcome.next.inj (hexec'.symm.trans hexec)
  obtain ⟨p', hrun', hsame⟩ := h.runSteps hys hrun
  exact ⟨⟨⟨by rwa [ht], hf.trans hready.1.2⟩, (congrArg Config.primEn hcfg).trans hready.2⟩, p', hrun', by rwa [ht]⟩

/-- An access whose run is the same at the pins as its list of primitives ends in the list's end state, but for the holding registers and
the responses. -/
theorem State.Ready.issue_eq_primitives {i : Instr} {s u p : State} (h : s.Ready) (hi : i.isPrimitive = false)
    (hrun : runSteps (microSteps i) (s.accept (encode i)) = .next p) (hsame : SameAtPins u p) (hu : u.Ready)
    (hbusy : u.busy = false) (hustep : u.ustep = 0) :
    ∃ t, s.issue (encode i) = .next t ∧
      { t with curOp := u.curOp, curData := u.curData, curArg := u.curArg, responses := u.responses } = u := by
  obtain ⟨t, ht, hexec, ⟨hrest, -⟩, -⟩ := (h.accept (encode i)).completes_access hi hrun
  obtain ⟨-, hphase, -⟩ := t.pinsAtRest_iff.1 hrest
  obtain ⟨-, hphase', -⟩ := u.pinsAtRest_iff.1 hu.1
  refine ⟨t, (State.issue_encode i s).trans hexec, ?_⟩
  calc
    _ = { u with phase := t.phase, busy := false, ustep := 0 } := by
      rw [ht, ← hsame.withFrame_eq]
      rfl
    _ = u := by rw [hphase, ← hphase', ← hbusy, ← hustep]

/-- No micro-step of a primitive writes `phase` (43_byte_access.md R147). -/
theorem phase_eq_none_of_primitive {i : Instr} (hi : i.isPrimitive = true) {m : MicroStep} (hm : m ∈ microSteps i) :
    m.phase = none := by
  have hall : (microSteps i).all (·.phase.isNone) = true := by
    cases i with
    | nop | readByte _ | writeByte _ _ => simp [Instr.isPrimitive] at hi
    | _ => rfl
  exact Option.isNone_iff_eq_none.1 (List.all_eq_true.1 hall m hm)

/-! ### The two accesses -/

/-- PREP_ADDR and LATCH_ADDR do the address phase and the latch phase of an access (43_byte_access.md R140). -/
theorem State.ReadyForPrimitive.addressPrimitives {s p : State} (h : s.ReadyForPrimitive) (hsame : SameAtPins s p) (a : Arg) :
    ∃ t p', (∀ ws, issueAll (encode .prepAddr :: encode (.latchAddr a) :: ws) s = issueAll ws t) ∧ t.ReadyForPrimitive ∧
      t.responses = s.responses ++ [⟨.ok, 0#20⟩, ⟨.ok, 0#20⟩] ∧ runSteps (addressSteps a) p = .next p' ∧ SameAtPins t p' := by
  obtain ⟨s₁, hexec₁, ⟨hresp₁, -⟩, -, -, -, hbus, -⟩ := prepAddrTurnsLinesOut _ (h.accept (encode .prepAddr))
  obtain ⟨h₁, p₁, hrun₁, hsame₁⟩ := exec_sameAtPins (ys := enterAtFirst .addressPhase prepAddrSteps) hexec₁ h rfl hsame rfl
  obtain ⟨s₂, hexec₂, ⟨hresp₂, -⟩, -⟩ := latchAddrLatches _ a (h₁.accept (encode (.latchAddr a))) hbus
  obtain ⟨h₂, p₂, hrun₂, hsame₂⟩ :=
    exec_sameAtPins (ys := enterAtLast .latchPhase (latchAddrSteps a)) hexec₂ h₁ (decide_eq_true hbus) hsame₁ rfl
  refine ⟨s₂, p₂, fun ws => ?_, h₂, ?_, ?_, hsame₂⟩
  · rw [issueAll_cons_of_exec hexec₁, issueAll_cons_of_exec hexec₂]
  · simp only [hresp₂, hresp₁, State.accept_responses, List.append_assoc, List.cons_append, List.nil_append]
  · rw [addressSteps, runSteps_append_of_next hrun₁, hrun₂]

/-- READ_BYTE and its list of primitives: each primitive does its part of READ_BYTE's micro-steps (43_byte_access.md R141, R147). -/
theorem State.ReadyForPrimitive.readByte_layered {s : State} (h : s.ReadyForPrimitive) (a : Arg) :
    ∃ t u rs, s.issue (encode (.readByte a)) = .next t ∧
      issueAll [encode .prepAddr, encode (.latchAddr a), encode .prepRead, encode (.delay .long), encode .sample,
        encode .busIdle] s = .next u ∧
      { t with curOp := u.curOp, curData := u.curData, curArg := u.curArg, responses := u.responses } = u ∧
      u.responses = s.responses ++ rs ∧ rs[4]? = some ⟨.ok, t.rdVal⟩ := by
  obtain ⟨s₂, p₂, hissue, h₂, hresp₂, hrun₂, hsame₂⟩ :=
    h.addressPrimitives (p := s.accept (encode (.readByte a))) rfl a
  obtain ⟨s₃, hexec₃, ⟨hresp₃, -⟩, -, hdir₃, -⟩ := prepReadEnablesDevice _ (h₂.accept (encode .prepRead))
  obtain ⟨h₃, p₃, hrun₃, hsame₃⟩ := exec_sameAtPins (ys := enterAtFirst .dataPhase prepReadSteps) hexec₃ h₂ rfl hsame₂ rfl
  obtain ⟨s₄, hexec₄, ⟨hresp₄, -⟩, -, -, -, -, -, -, hdir₄, -⟩ := delayWaitsOnly _ .long (h₃.accept (encode (.delay .long)))
  obtain ⟨h₄, p₄, hrun₄, hsame₄⟩ := exec_sameAtPins (ys := delaySteps .long) hexec₄ h₃ rfl hsame₃ rfl
  have hinput : s₄.dir = .input := hdir₄.trans hdir₃
  obtain ⟨s₅, hexec₅, ⟨hresp₅, -⟩, -⟩ := sampleReadsLines _ (h₄.accept (encode .sample)) hinput
  obtain ⟨h₅, p₅, hrun₅, hsame₅⟩ := exec_sameAtPins (ys := sampleSteps) hexec₅ h₄ (decide_eq_true hinput) hsame₄ rfl
  obtain ⟨s₆, hexec₆, ⟨hresp₆, hbusy, hustep⟩, -, -, -, -, ⟨-, hval⟩, -⟩ := busIdleReleasesLines _ (h₅.accept (encode .busIdle))
  obtain ⟨h₆, p₆, hrun₆, hsame₆⟩ := exec_sameAtPins (ys := enterAtLast .idle busIdleSteps) hexec₆ h₅ rfl hsame₅ rfl
  have hrun : runSteps (readByteSteps a) (s.accept (encode (.readByte a))) = .next p₆ := by
    simp only [readByteSteps, List.append_assoc]
    rw [runSteps_append_of_next hrun₂, runSteps_append_of_next hrun₃, runSteps_append_of_next hrun₄,
      runSteps_append_of_next hrun₅, hrun₆]
  obtain ⟨t, hread, heq⟩ := h.1.issue_eq_primitives (i := .readByte a) rfl hrun hsame₆ h₆.1 hbusy hustep
  refine ⟨t, s₆, [⟨.ok, 0#20⟩, ⟨.ok, 0#20⟩, ⟨.ok, 0#20⟩, ⟨.ok, 0#20⟩, ⟨.ok, s₅.rdVal⟩, ⟨.ok, 0#20⟩], hread, ?program, heq,
    ?responses, ?sample⟩
  case program =>
    rw [hissue, issueAll_cons_of_exec hexec₃, issueAll_cons_of_exec hexec₄, issueAll_cons_of_exec hexec₅,
      issueAll_cons_of_exec hexec₆, issueAll]
  case responses =>
    simp only [hresp₆, hresp₅, hresp₄, hresp₃, hresp₂, State.accept_responses, List.append_assoc, List.cons_append,
      List.nil_append]
  case sample =>
    have hsample : t.rdVal = s₅.rdVal := (congrArg State.rdVal heq).trans hval
    rw [hsample]
    rfl

/-- WRITE_BYTE and its list of primitives (43_byte_access.md R142, R147; 92_eei_decisions.md D18, log 28). -/
theorem State.ReadyForPrimitive.writeByte_layered {s : State} (h : s.ReadyForPrimitive) (a : Arg) (b : Byte) :
    ∃ t u, s.issue (encode (.writeByte a b)) = .next t ∧
      issueAll [encode .prepAddr, encode (.latchAddr a), encode (.prepWrite b)] s = .next u ∧
      { t with curOp := u.curOp, curData := u.curData, curArg := u.curArg, responses := u.responses } = u := by
  obtain ⟨s₂, p₂, hissue, h₂, -, hrun₂, hsame₂⟩ :=
    h.addressPrimitives (p := s.accept (encode (.writeByte a b))) rfl a
  obtain ⟨s₃, hexec₃, ⟨-, hbusy, hustep⟩, -⟩ := prepWriteStoresByte _ b (h₂.accept (encode (.prepWrite b)))
  obtain ⟨h₃, p₃, hrun₃, hsame₃⟩ :=
    exec_sameAtPins (ys := enterAtLast .idle (enterAtFirst .dataPhase (prepWriteSteps b))) hexec₃ h₂ rfl hsame₂ rfl
  have hrun : runSteps (writeByteSteps a b) (s.accept (encode (.writeByte a b))) = .next p₃ := by
    rw [writeByteSteps, runSteps_append_of_next hrun₂, hrun₃]
  obtain ⟨t, hwrite, heq⟩ := h.1.issue_eq_primitives (i := .writeByte a b) rfl hrun hsame₃ h₃.1 hbusy hustep
  exact ⟨t, s₃, hwrite, by rw [hissue, issueAll_cons_of_exec hexec₃, issueAll], heq⟩

/-- Settles O37, access by access. -/
theorem accessesAreLayered : Obligations.AccessesAreLayered := by
  unfold Obligations.AccessesAreLayered
  exact ⟨fun _ a h _ _ => h.readByte_layered a, fun _ a b h _ _ => h.writeByte_layered a b,
    fun _ _ hi hm => phase_eq_none_of_primitive hi hm⟩

end Sys2Proof.Machine
end

section
/-! PROOFS. The digits of a hex-dump row (44_host_clients.md R166, R167, R170). -/

namespace Sys2Proof.Machine

/-- A string of hexadecimal digits is the digits of the number, the power of sixteen falling from left to right. -/
theorem hexString_eq_map (width n : Nat) :
    hexString width n = (List.range width).reverse.map fun p => hexDigit (n / 16 ^ p % 16) := by
  induction width generalizing n with
  | zero => rfl
  | succ width ih =>
    rw [hexString, ih, List.range_succ_eq_map, List.reverse_cons, List.map_append, ← List.map_reverse, List.map_map]
    simp [Nat.div_div_eq_div_mul, Nat.pow_succ']

/-- The digits above the string's width are dropped (44_host_clients.md R166; 92_eei_decisions.md D31). -/
theorem hexString_mod (width n : Nat) : hexString width (n % 16 ^ width) = hexString width n := by
  induction width generalizing n with
  | zero => rfl
  | succ width ih =>
    simp only [hexString]
    rw [Nat.pow_succ', Nat.mod_mul_right_div_self, Nat.mod_mul_right_mod, ih]

/-- A byte is two digits. -/
theorem hexString_byte (b : Byte) : hexString 2 b.toNat = [hexDigit (b.toNat / 16), hexDigit (b.toNat % 16)] := by
  have hhigh : b.toNat / 16 % 16 = b.toNat / 16 := Nat.mod_eq_of_lt (by have := b.isLt; omega)
  simp [hexString, hhigh]

/-- Settles O55: the address string holds the six digits of the base (`hexString_mod`), a pair the two of its byte. -/
theorem formatRowDigits : Obligations.FormatRowDigits := by
  unfold Obligations.FormatRowDigits
  refine ⟨fun base bytes h => ?row, fun base bytes h => if_neg h, rfl⟩
  case row =>
    refine ⟨_, if_pos h, ?addr, by simpa using h, fun i hi => ?pair, rfl⟩
    case addr => exact (hexString_mod 6 base).trans (hexString_eq_map 6 base)
    case pair => simp [hi, hexString_byte]

end Sys2Proof.Machine
end

section
/-! PROOFS. `verify` as a sequence of its parts: a part that ends in `Success` hands its state to the next, any other end is the end of the run; so the run
can be cut anywhere, in chunks of the byte source too (44_host_clients.md R162, R165). -/

namespace Sys2Proof.Machine

/-- The run `r`, then `next` from its state if it ended in `Success`. -/
def verifyThen (r : VerifyEnd × State) (next : State → VerifyEnd × State) : VerifyEnd × State :=
  if r.1 = .result .success then next r.2 else r

theorem verifyThen_success (t : State) (next : State → VerifyEnd × State) :
    verifyThen (.result .success, t) next = next t := if_pos rfl

theorem verifyThen_of_ne {r : VerifyEnd × State} (h : r.1 ≠ .result .success) (next : State → VerifyEnd × State) :
    verifyThen r next = r := if_neg h

theorem verifyThen_assoc (r : VerifyEnd × State) (f g : State → VerifyEnd × State) :
    verifyThen (verifyThen r f) g = verifyThen r fun s => verifyThen (f s) g := by
  by_cases h : r.1 = .result .success
  · simp [verifyThen, h]
  · simp only [verifyThen_of_ne h]

/-- `verify` does one byte, then the rest. -/
theorem verifyFrom_cons (start i : Nat) (e : Byte) (rest : List Byte) (s : State) :
    verifyFrom start i (e :: rest) s = verifyThen (verifyFrom start i [e] s) (verifyFrom start (i + 1) rest) := by
  simp only [verifyFrom]
  cases readAt (start + i) s with
  | next t =>
    by_cases hok : t.lastResponse.status = .ok
    · by_cases heq : dataLane t.lastResponse.value = e <;> simp [verifyThen, hok, heq]
    · simp [verifyThen, hok]
  | fault r => rfl
  | refused r => rfl

theorem verifyFrom_append (start i : Nat) (xs ys : List Byte) (s : State) :
    verifyFrom start i (xs ++ ys) s = verifyThen (verifyFrom start i xs s) (verifyFrom start (i + xs.length) ys) := by
  induction xs generalizing i s with
  | nil => rfl
  | cons e xs ih =>
    have hoffset : i + (e :: xs).length = i + 1 + xs.length := by rw [List.length_cons]; omega
    rw [List.cons_append, verifyFrom_cons, verifyFrom_cons start i e xs, verifyThen_assoc, hoffset]
    exact congrArg (verifyThen _) (funext (ih (i + 1)))

/-- A read of the source that is no end of stream: its chunk, then the chunks of the rest (44_host_clients.md R164). -/
theorem verifyChunks_succ {chunk : Nat} {source : List Byte} (h : (source.take chunk).length ≠ 0) (start fuel i : Nat)
    (s : State) :
    verifyChunks chunk start (fuel + 1) i source s =
      verifyThen (verifyFrom start i (source.take chunk) s)
        (verifyChunks chunk start fuel (i + (source.take chunk).length) (source.drop chunk)) := by
  have hread : (sourceRead chunk source).1 ≠ 0 := h
  rw [verifyChunks, if_neg hread]
  simp only [sourceRead]
  split
  next t ht => rw [ht, verifyThen_success]
  all_goals
    next hend => rw [hend]; rfl

/-- With more reads of the source than it has bytes, chunks of at least one byte come to the whole sequence. -/
theorem verifyChunks_eq_verifyFrom {chunk : Nat} (hc : 1 ≤ chunk) (start : Nat) {fuel : Nat} (i : Nat) {source : List Byte}
    (hfuel : source.length < fuel) (s : State) :
    verifyChunks chunk start fuel i source s = verifyFrom start i source s := by
  induction fuel generalizing i source s with
  | zero => exact absurd hfuel (Nat.not_lt_zero _)
  | succ fuel ih =>
    cases source with
    | nil => simp [verifyChunks, sourceRead, verifyFrom]
    | cons e rest =>
      have htake : ((e :: rest).take chunk).length ≠ 0 := by simp; omega
      have hdrop : ((e :: rest).drop chunk).length < fuel := by simp at hfuel ⊢; omega
      have hrest (j : Nat) :
          verifyChunks chunk start fuel j ((e :: rest).drop chunk) = verifyFrom start j ((e :: rest).drop chunk) :=
        funext (ih j hdrop)
      rw [verifyChunks_succ htake, hrest, ← verifyFrom_append, List.take_append_drop]

/-- Settles O54: the client allows one more read of the source than it has bytes. -/
theorem chunkingHasNoEffect : Obligations.ChunkingHasNoEffect := by
  unfold Obligations.ChunkingHasNoEffect
  exact fun s source start hc => verifyChunks_eq_verifyFrom hc start 0 (Nat.lt_succ_self _) s

end Sys2Proof.Machine
end

section
/-! PROOFS. The reads of `verify` at a live device: what each leaves to the next, and where the run stops (44_host_clients.md R163). -/

namespace Sys2Proof.Machine

/-- A boundary state from which READ_BYTE answers the device's byte: no fault, the device selected, in time and not stuck. -/
structure State.Live (s : State) : Prop where
  atBoundary : s.atBoundary = true
  noFault : s.NoFault
  selected : s.Selected
  timingOK : s.TimingOK
  envOK : s.EnvOK

/-- The operand of the read at the relative offset `i` (44_host_clients.md R162). -/
def readArg (start i : Nat) : Arg := BitVec.ofNat 32 (start + i)

/-- The client's read of a live device answers the device's byte, adds the trace of READ_BYTE, and leaves the same device live. -/
theorem State.Live.readAt_next {s : State} (h : s.Live) (start i : Nat) :
    ∃ t v, readAt (start + i) s = .next t ∧ t.Live ∧ t.dev = s.dev ∧
      t.responses = s.responses ++ [⟨.ok, dataLines (s.dev.read (deviceAddress (readArg start i)))⟩] ∧
      t.trace = s.trace ++ readTrace (readArg start i) v := by
  obtain ⟨hrest, -⟩ := s.atBoundary_iff.1 h.atBoundary
  have hready : (s.accept (encode (.readByte (readArg start i)))).Ready := ⟨hrest, h.noFault⟩
  obtain ⟨t, hexec, hresp⟩ := hready.exec_readByte_valid h.selected h.timingOK h.envOK (readArg start i)
  obtain ⟨_, rfl, hexec', ⟨hrest', hfault⟩, ⟨-, hbusy, hustep⟩, -⟩ :=
    hready.completes_access (i := .readByte (readArg start i)) rfl (run_readByte hready.latched _)
  obtain rfl := Host.Outcome.next.inj (hexec'.symm.trans hexec)
  exact ⟨_, _, (State.issue_encode _ s).trans hexec,
    ⟨(State.atBoundary_iff _).2 ⟨hrest', hbusy, hustep⟩, hfault, h.selected, h.timingOK, h.envOK⟩, rfl, hresp, rfl⟩

/-- `t` is `s` after `n` reads of a live device at ascending addresses, and after nothing else. -/
structure AfterReads (start n : Nat) (s t : State) : Prop where
  live : t.Live
  dev : t.dev = s.dev
  responses : t.responses.length = s.responses.length + n
  trace : ∃ vs : Nat → Lines, t.trace = s.trace ++ (List.range n).flatMap fun i => readTrace (readArg start i) (vs i)

theorem AfterReads.zero {s : State} (h : s.Live) (start : Nat) : AfterReads start 0 s s :=
  ⟨h, rfl, rfl, fun _ => 0#20, (List.append_nil _).symm⟩

/-- One sample more at the end of a sequence of read traces. -/
theorem flatMap_readTrace_succ (start n : Nat) (vs : Nat → Lines) (v : Lines) :
    ((List.range (n + 1)).flatMap fun i => readTrace (readArg start i) (Function.update vs n v i)) =
      ((List.range n).flatMap fun i => readTrace (readArg start i) (vs i)) ++ readTrace (readArg start n) v := by
  have hbefore : ∀ i ∈ List.range n, readTrace (readArg start i) (Function.update vs n v i) = readTrace (readArg start i) (vs i) := by
    intro i hi
    rw [Function.update_of_ne (List.mem_range.1 hi).ne]
  rw [List.range_succ, List.flatMap_append, List.flatMap_congr hbefore, List.flatMap_singleton, Function.update_self]

/-- The next read of the sequence, and the response the host then holds. -/
theorem AfterReads.readAt_next {start n : Nat} {s t : State} (h : AfterReads start n s t) :
    ∃ u, readAt (start + n) t = .next u ∧ AfterReads start (n + 1) s u ∧
      u.lastResponse = ⟨.ok, dataLines (s.dev.read (deviceAddress (readArg start n)))⟩ := by
  obtain ⟨u, v, hread, hlive, hdev, hresp, htrace⟩ := h.live.readAt_next start n
  obtain ⟨vs, hvs⟩ := h.trace
  rw [h.dev] at hresp
  refine ⟨u, hread, ⟨hlive, hdev.trans h.dev, ?_, Function.update vs n v, ?_⟩, ?_⟩
  · rw [hresp, List.length_append, h.responses]
    rfl
  · rw [htrace, hvs, flatMap_readTrace_succ, List.append_assoc]
  · rw [State.lastResponse, hresp, List.getLastD_concat]

/-- What `verify` says of an expected byte when the device holds `actual` there. -/
def compareAt (i : Nat) (expected actual : Byte) : VerifyResult :=
  if actual = expected then .success else .mismatchAt i expected actual

theorem verifyFrom_singleton {start i : Nat} {s t : State} {actual : Byte} (hread : readAt (start + i) s = .next t)
    (hlast : t.lastResponse = ⟨.ok, dataLines actual⟩) (e : Byte) :
    verifyFrom start i [e] s = (.result (compareAt i e actual), t) := by
  simp only [verifyFrom, hread, hlast, dataLane_dataLines, compareAt, if_true]
  split <;> rfl

/-- One byte more: when `verify` of the first `k` bytes succeeded after `k` reads, one read more compares the next byte. -/
theorem verify_take_succ {start k : Nat} {expected : List Byte} {s t : State} (hk : k < expected.length)
    (hverify : verify (expected.take k) start s = (.result .success, t)) (ht : AfterReads start k s t) :
    ∃ u, verify (expected.take (k + 1)) start s =
        (.result (compareAt k expected[k] (s.dev.read (deviceAddress (readArg start k)))), u) ∧
      AfterReads start (k + 1) s u := by
  obtain ⟨u, hread, hu, hlast⟩ := ht.readAt_next
  refine ⟨u, ?_, hu⟩
  rw [verify] at hverify
  rw [verify, List.take_succ_eq_append_getElem hk, verifyFrom_append, hverify, verifyThen_success,
    List.length_take_of_le hk.le, Nat.zero_add, verifyFrom_singleton hread hlast]

/-- `verify` of the first `k` bytes, all of which the device holds, succeeds after `k` reads. -/
theorem verify_take_of_match {start k : Nat} {expected : List Byte} {s : State} (h : s.Live) (hk : k ≤ expected.length)
    (hmatch : ∀ i (hi : i < k), s.dev.read (deviceAddress (readArg start i)) = expected[i]) :
    ∃ t, verify (expected.take k) start s = (.result .success, t) ∧ AfterReads start k s t := by
  induction k with
  | zero => exact ⟨s, rfl, .zero h start⟩
  | succ k ih =>
    obtain ⟨t, hverify, ht⟩ := ih (Nat.le_of_succ_le hk) fun i hi => hmatch i (Nat.lt_succ_of_lt hi)
    obtain ⟨u, hverify', hu⟩ := verify_take_succ hk hverify ht
    rw [compareAt, if_pos (hmatch k (Nat.lt_succ_self k))] at hverify'
    exact ⟨u, hverify', hu⟩

/-- A `verify` that did not succeed on the first bytes does not look at the others (fail-fast, 44_host_clients.md R162). -/
theorem verify_eq_take_of_ne {start k : Nat} {expected : List Byte} {s : State}
    (h : (verify (expected.take k) start s).1 ≠ .result .success) :
    verify expected start s = verify (expected.take k) start s := by
  calc
    verify expected start s = verifyFrom start 0 (expected.take k ++ expected.drop k) s := by
      rw [List.take_append_drop, verify]
    _ = verify (expected.take k) start s := by rw [verifyFrom_append]; exact verifyThen_of_ne h _

/-- Settles O53: the matching bytes are read one by one (`verify_take_of_match`), and the first difference ends the run (`verify_eq_take_of_ne`). -/
theorem verifyStopsAtFirstDifference : Obligations.VerifyStopsAtFirstDifference := by
  unfold Obligations.VerifyStopsAtFirstDifference
  intro s expected start hb hf hc ht he
  have hlive : s.Live := ⟨hb, hf, hc, ht, he⟩
  refine ⟨fun hmatch => ?allMatch, fun k hk hmatch hdiff => ?differsAt⟩
  case allMatch =>
    obtain ⟨t, hverify, ⟨-, -, hresp, vs, htrace⟩⟩ := verify_take_of_match hlive le_rfl hmatch
    rw [List.take_length] at hverify
    exact ⟨t, vs, hverify, hresp, htrace⟩
  case differsAt =>
    obtain ⟨t, hverify, ht⟩ := verify_take_of_match hlive hk.le hmatch
    obtain ⟨u, hverify', ⟨-, -, hresp, vs, htrace⟩⟩ := verify_take_succ hk hverify ht
    have hne : s.dev.read (deviceAddress (readArg start k)) ≠ expected[k] := hdiff
    rw [compareAt, if_neg hne] at hverify'
    have hend : (verify (expected.take (k + 1)) start s).1 ≠ .result .success := by simp [hverify']
    exact ⟨u, vs, (verify_eq_take_of_ne hend).trans hverify', hresp, htrace⟩

end Sys2Proof.Machine
end

section
/-! PROOFS. The fault record: what a word does with a fault recorded and without one, what the steps keep of it, and what reset clears
(60_exceptions.md R181, R185 to R188). -/

namespace Sys2Proof.Machine

/-! ### A fault is recorded -/

theorem State.accept_answer (w : CmdWord) (st : Status) (s : State) :
    (s.accept w).answer st 0#20 = s.answeredAtOnce w st := rfl

theorem State.runChecks_of_fault {s : State} {f : BlockFault} (h : s.fault = some f) (p q : Bool) : s.runChecks p q = s := by
  simp [State.runChecks, h]

theorem State.admitWord_of_fault {s : State} {f : BlockFault} (h : s.fault = some f) (w : CmdWord) :
    s.admitWord w = s.accept w := by
  have ha : (s.accept w).fault = some f := h
  cases hd : decodeWord w with
  | error e => rw [State.admitWord_reserved hd, State.raise_some ha]
  | ok i => rw [State.admitWord_decoded hd, State.runChecks_of_fault ha]

/-- Any word, reserved ones too, is answered at once with the recorded fault's code (60_exceptions.md R187). -/
theorem State.issue_of_fault {s : State} {f : BlockFault} (h : s.fault = some f) (w : CmdWord) :
    s.issue w = .next (s.answeredAtOnce w f.status) := by
  rw [State.issue_eq_resume, State.admitWord_of_fault h, State.resume_of_fault (s := s.accept w) h, State.accept_answer]

/-- Settles O11, from the answer of any word with a fault recorded. -/
theorem refusedAfterFault : Obligations.RefusedAfterFault := by
  unfold Obligations.RefusedAfterFault
  exact fun _ w _ h => State.issue_of_fault h w

/-! ### The record along the steps -/

theorem State.hostMove_keeps_fault {s t : State} {m : HostMove} {f : BlockFault} (hf : s.fault = some f)
    (hm : m.keepsOutOfReset = true) (h : s.hostMove m = .next t) : t.fault = some f ∧ t.faultCw = s.faultCw := by
  cases m with
  | pause =>
    obtain rfl : s = t := by simpa [State.hostMove] using h
    exact ⟨hf, rfl⟩
  | command w =>
    obtain rfl : s.answeredAtOnce w f.status = t := by simpa [State.hostMove, State.issue_of_fault hf] using h
    exact ⟨hf, rfl⟩
  | commandCut w n => simp [HostMove.keepsOutOfReset] at hm
  | reset => simp [HostMove.keepsOutOfReset] at hm

theorem step_busy {s : State} (hr : s.inReset = false) (hb : s.busy = true) : step s = s.resume := by
  simp [step, hr, hb]

theorem step_keeps_fault {s t : State} {f : BlockFault} (hf : s.fault = some f)
    (hm : ∀ m ∈ s.moves, m.keepsOutOfReset = true) (h : step s = .next t) : t.fault = some f ∧ t.faultCw = s.faultCw := by
  cases hr : s.inReset with
  | true =>
    obtain rfl : s.leaveReset = t := by simpa [step_inReset hr] using h
    exact ⟨hf, rfl⟩
  | false =>
    cases hb : s.busy with
    | true =>
      obtain rfl : s.answer f.status 0#20 = t := by simpa [step_busy hr hb, State.resume_of_fault hf] using h
      exact ⟨hf, rfl⟩
    | false =>
      cases hmoves : s.moves with
      | nil =>
        obtain rfl : s = t := by simpa [step_no_moves hr hb hmoves] using h
        exact ⟨hf, rfl⟩
      | cons m rest =>
        rw [step_move hr hb hmoves] at h
        exact State.hostMove_keeps_fault (s := s.popMove rest) hf (hm m (by simp [hmoves])) h

theorem State.assertReset_clears (s : State) : s.assertReset.fault = none ∧ PinsIdle s.assertReset :=
  ⟨rfl, rfl, rfl, rfl, rfl, rfl⟩

/-- Settles O12: each kind of step keeps the record (`step_keeps_fault`), and reset writes it and the pins. -/
theorem firstFaultWins : Obligations.FirstFaultWins := by
  unfold Obligations.FirstFaultWins
  exact ⟨fun _ _ _ => step_keeps_fault, State.assertReset_clears⟩

/-! ### No fault is recorded -/

/-- A word that decodes to no accepted command: a reserved one, or a primitive the narrow interface leaves out (60_exceptions.md R182, R185). -/
theorem State.issue_not_accepted {w : CmdWord} {s : State} (hf : s.fault = none)
    (h : ∀ i, decodeWord w = .ok i → i.acceptedBy s.cfg = false) : s.issue w = .next (s.faultedBy w .illegalCommand) := by
  cases hd : decodeWord w with
  | error e => exact State.issue_reserved hd hf
  | ok i => exact State.issue_illegal hd hf (h i hd)

/-- An accepted command whose precondition holds runs, and no micro-step writes the fault record. -/
theorem State.issue_leaves_no_fault {w : CmdWord} {i : Instr} {s t : State} (hf : s.fault = none) (hd : decodeWord w = .ok i)
    (ha : i.acceptedBy s.cfg = true) (hp : precondition i s = true) (h : s.issue w = .next t) : t.fault = none := by
  rcases State.issue_cases hd h with ⟨f, hf', -⟩ | ⟨-, ha', -⟩ | ⟨-, -, hp', -⟩ | ⟨-, -, -, u, hu, rfl⟩
  · simp [hf] at hf'
  · simp [ha] at ha'
  · simp [hp] at hp'
  · obtain ⟨-, -, -, -, -, hfault, -⟩ := runSteps_keeps hu
    exact hfault.trans hf

/-- The three ends of a word issued with no fault recorded (60_exceptions.md R185). -/
theorem State.issue_fault_cases {w : CmdWord} {s t : State} (hf : s.fault = none) (h : s.issue w = .next t) :
    t = s.faultedBy w .illegalCommand ∨
    (∃ i, decodeWord w = .ok i ∧ i.acceptedBy s.cfg = true ∧ precondition i s = false ∧
      t = s.faultedBy w .busTimingViolation) ∨
    t.fault = none := by
  by_cases hacc : ∃ i, decodeWord w = .ok i ∧ i.acceptedBy s.cfg = true
  · obtain ⟨i, hd, ha⟩ := hacc
    cases hp : precondition i s with
    | false => exact .inr (.inl ⟨i, hd, ha, hp, by simpa [State.issue_violation hd hf ha hp] using h.symm⟩)
    | true => exact .inr (.inr (State.issue_leaves_no_fault hf hd ha hp h))
  · have hillegal := State.issue_not_accepted hf fun i hd => by simpa using fun ha => hacc ⟨i, hd, ha⟩
    exact .inl (by simpa [hillegal] using h.symm)

theorem State.faultedBy_fault (w : CmdWord) (x : BlockFault) (s : State) : (s.faultedBy w x).fault = some x := rfl

theorem State.faultedBy_atBoundary {s : State} (h : s.atBoundary = true) (w : CmdWord) (x : BlockFault) :
    (s.faultedBy w x).atBoundary = true :=
  (State.atBoundary_iff _).2 ⟨(s.atBoundary_iff.1 h).1, rfl, rfl⟩

/-- A word that leaves a fault did nothing but take it (60_exceptions.md R186). -/
theorem State.eq_faultedBy_of_fault {w : CmdWord} {x : BlockFault} {s t : State} (hf : s.fault = none)
    (h : s.issue w = .next t) (ht : t.fault = some x) : t = s.faultedBy w x := by
  rcases State.issue_fault_cases hf h with rfl | ⟨-, -, -, -, rfl⟩ | hnone
  · obtain rfl : BlockFault.illegalCommand = x := by simpa [State.faultedBy_fault] using ht
    rfl
  · obtain rfl : BlockFault.busTimingViolation = x := by simpa [State.faultedBy_fault] using ht
    rfl
  · simp [hnone] at ht

/-- Settles O13: a word that leaves a fault ends in the faulted state, which has the pins of the state before. -/
theorem faultEntry : Obligations.FaultEntry := by
  unfold Obligations.FaultEntry
  intro s t w x hf h ht
  obtain rfl := State.eq_faultedBy_of_fault hf h ht
  exact ⟨rfl, fun hb => State.faultedBy_atBoundary hb w x⟩

/-- Settles O14, check by check: recorded fault, decode, precondition, and the run of a word that passes all three. -/
theorem checkOrder : Obligations.CheckOrder := by
  unfold Obligations.CheckOrder
  intro s w
  exact ⟨fun _ hf => State.issue_of_fault hf w, State.issue_not_accepted,
    fun _ hf hd => State.issue_violation hd hf, fun _ _ => State.issue_leaves_no_fault⟩

/-! ### The failed precondition -/

/-- Only DRIVE, SAMPLE and LATCH_ADDR have a `require` that can fail (60_exceptions.md R181). -/
theorem precondition_eq_false_iff (i : Instr) (s : State) :
    precondition i s = false ↔
      (∃ arg, i = .drive arg ∧ s.dir ≠ .output) ∨ (i = .sample ∧ s.dir ≠ .input) ∨
        (∃ arg, i = .latchAddr arg ∧ s.bus ≠ .addressDrive) := by
  cases i with
  | drive arg => simp [precondition, drivePre]
  | sample => simp [precondition, samplePre]
  | latchAddr arg => simp [precondition, latchAddrPre]
  | _ => simp [precondition]

theorem State.issue_violation_iff {w : CmdWord} {s : State} (hf : s.fault = none) :
    s.issue w = .next (s.faultedBy w .busTimingViolation) ↔
      ∃ i, decodeWord w = .ok i ∧ i.acceptedBy s.cfg = true ∧ precondition i s = false := by
  constructor
  · intro h
    rcases State.issue_fault_cases hf h with heq | ⟨i, hd, ha, hp, -⟩ | hnone
    · simpa [State.faultedBy_fault] using congrArg State.fault heq
    · exact ⟨i, hd, ha, hp⟩
    · simp [State.faultedBy_fault] at hnone
  · rintro ⟨i, hd, ha, hp⟩
    exact State.issue_violation hd hf ha hp

/-- Settles O15: the violation is exactly a failed precondition (`State.issue_violation_iff`), and a word that leaves a fault did nothing else. -/
theorem violationExactlyWhen : Obligations.ViolationExactlyWhen := by
  unfold Obligations.ViolationExactlyWhen
  intro s w hf
  simp only [← precondition_eq_false_iff]
  exact ⟨State.issue_violation_iff hf, fun _ => State.eq_faultedBy_of_fault hf⟩

end Sys2Proof.Machine
end

section
/-! PROOFS. Reset at any edge of the clock and inside a command: what it writes, what it does to the device, and the edge that leaves it
(70_reset_and_hazards.md R210 to R212; 10_state.md R31). -/

namespace Sys2Proof.Machine

/-! ### What a reset keeps -/

@[simp] theorem State.markAbandoned_frame (s : State) :
    s.markAbandoned.cfg = s.cfg ∧ s.markAbandoned.we = s.we ∧ s.markAbandoned.dev = s.dev ∧
      s.markAbandoned.draws = s.draws ∧ s.markAbandoned.responses = s.responses := by
  unfold State.markAbandoned
  split <;> exact ⟨rfl, rfl, rfl, rfl, rfl⟩

@[simp] theorem State.resetDevice_frame (s : State) :
    s.resetDevice.cfg = s.cfg ∧ s.resetDevice.trace = s.trace ∧ s.resetDevice.responses = s.responses := by
  unfold State.resetDevice
  split <;> exact ⟨rfl, rfl, rfl⟩

/-- A reset keeps the parameters and the responses, and puts Chip-Enable at its constant level (70_reset_and_hazards.md R210, R213). -/
theorem State.assertReset_frame (s : State) :
    s.assertReset.cfg = s.cfg ∧ s.assertReset.ce = s.cfg.ceStatic ∧ s.assertReset.responses = s.responses := by
  simp [State.assertReset]

/-- A command in progress ends its trace with the mark (70_reset_and_hazards.md R211; log 14). -/
theorem State.assertReset_trace_of_busy {s : State} (h : s.busy = true) : s.assertReset.trace = s.trace ++ [.reset] := by
  simp [State.assertReset, State.markAbandoned, h]

/-! ### What a reset does to the device (70_reset_and_hazards.md R211, R212; log 13) -/

theorem State.resetDevice_devAlatch (s : State) : s.resetDevice.devAlatch = Config.draw20 s.draws := by
  unfold State.resetDevice
  split <;> rfl

theorem State.resetDevice_dev (s : State) : s.resetDevice.dev = if s.we then s.dev.spoil (s.draws + 1) else s.dev := by
  unfold State.resetDevice
  split <;> rfl

theorem State.assertReset_devAlatch (s : State) : s.assertReset.devAlatch = Config.draw20 s.draws := by
  simp [State.assertReset, State.resetDevice_devAlatch]

theorem State.assertReset_dev (s : State) : s.assertReset.dev = if s.we then s.dev.spoil (s.draws + 1) else s.dev := by
  simp [State.assertReset, State.resetDevice_dev]

/-! ### The edges of a reset -/

theorem tick_reset {p : PortsIn} (hp : p.rstN = false) (s : State) : tick p s = .next s.assertReset := by
  simp [tick, hp]

theorem tick_leaveReset {p : PortsIn} {s : State} (hp : p.rstN = true) (hr : s.inReset = true) :
    tick p s = .next s.leaveReset := by
  simp [tick, hp, hr]

/-- Settles O46: the edge in reset is `State.assertReset`, whose fields but the three it keeps are written out in it; the next edge is
`State.leaveReset`. -/
theorem resetFromAnyState : Obligations.ResetFromAnyState := by
  unfold Obligations.ResetFromAnyState
  intro s p q hp hq
  obtain ⟨hcfg, hce, hresp⟩ := s.assertReset_frame
  refine ⟨s.assertReset, tick_reset hp s, ?record, hcfg, hresp, rfl, rfl, tick_leaveReset hq rfl, rfl, s.assertReset_atBoundary⟩
  case record => exact ⟨rfl, rfl, rfl, rfl, rfl, hce, rfl, rfl, rfl, rfl, rfl, rfl, rfl, rfl, rfl, rfl, rfl⟩

/-! ### A command cut by reset -/

/-- Admission gives no response (30_encoding.md R77, R78). -/
theorem State.admitWord_responses (w : CmdWord) (s : State) : (s.admitWord w).responses = s.responses := by
  rw [State.admitWord_eq]
  rfl

/-- Settles O47: the first micro-steps of the admitted word run without contention and keep it in progress, and the reset then abandons it. -/
theorem resetAbandonsCommand : Obligations.ResetAbandonsCommand := by
  unfold Obligations.ResetAbandonsCommand
  intro s w n hbound
  obtain ⟨hrest, -⟩ := s.atBoundary_iff.1 hbound
  obtain ⟨u, hrun⟩ := (s.tableRun_admitWord hrest w).runSteps_take n
  obtain ⟨hadmitted, -⟩ := s.admitWord_frame w
  obtain ⟨-, -, -, -, -, -, -, hbusy, -, -, hresp⟩ := runSteps_keeps hrun
  obtain ⟨-, -, hkept⟩ := u.assertReset_frame
  obtain ⟨hfault, hidle⟩ := u.assertReset_clears
  have hcut : s.issueCut w n = .next u.assertReset := by simp [State.issueCut, hrun]
  refine ⟨u, u.assertReset, hrun, hcut, ?responses, State.assertReset_trace_of_busy (hbusy.trans hadmitted), hidle, hfault, rfl,
    u.assertReset_devAlatch, fun hwe => ?kept, fun hwe => ?spoilt⟩
  case responses => rw [hkept, hresp, State.admitWord_responses]
  case kept => simp [State.assertReset_dev, hwe]
  case spoilt => simp [State.assertReset_dev, hwe]

end Sys2Proof.Machine
end

section
/-! PROOFS. The order in which a command turns the lines and the device's output, and the cycles a command takes
(70_reset_and_hazards.md R216, R217, R228). -/

namespace Sys2Proof.Machine

/-! ### Turning the lines (70_reset_and_hazards.md R216, R217) -/

/-- The list ends in a stretch that begins with the action `guard` and does not have the action `undo`. -/
def EndsGuarded (guard undo : PinAction) (ms : List MicroStep) : Prop :=
  ∃ x ys, ms = x ++ ys ∧ ys.head?.map (·.action) = some guard ∧ ∀ y ∈ ys, y.action ≠ undo

/-- Reads a list from its head on: whether each action `act` is found armed. The action `guard` arms, the action `undo` disarms. -/
def guardsEach (guard undo act : PinAction) : Bool → List MicroStep → Bool
  | _, [] => true
  | armed, m :: ms =>
    (decide (m.action ≠ act) || armed) &&
      guardsEach guard undo act (decide (m.action = guard) || armed && decide (m.action ≠ undo)) ms

theorem EndsGuarded.cons {guard undo : PinAction} {ms : List MicroStep} (h : EndsGuarded guard undo ms) (m : MicroStep) :
    EndsGuarded guard undo (m :: ms) := by
  obtain ⟨x, ys, rfl, hhead, hno⟩ := h
  exact ⟨m :: x, ys, rfl, hhead, hno⟩

/-- Before an action that is found armed: the list was armed when it began and has not been disarmed, or it ends in a guarded stretch. -/
theorem endsGuarded_of_guardsEach {guard undo act : PinAction} (hne : guard ≠ undo) {armed : Bool} {before after : List MicroStep}
    {m : MicroStep} (h : guardsEach guard undo act armed (before ++ m :: after) = true) (hm : m.action = act) :
    (armed = true ∧ ∀ y ∈ before, y.action ≠ undo) ∨ EndsGuarded guard undo before := by
  induction before generalizing armed with
  | nil =>
    obtain ⟨harmed, -⟩ := Bool.and_eq_true_iff.1 h
    exact .inl ⟨by simpa [hm] using harmed, by simp⟩
  | cons n ns ih =>
    obtain ⟨-, hrest⟩ := Bool.and_eq_true_iff.1 h
    obtain ⟨harmed, hno⟩ | hguarded := ih hrest
    · rcases (by simpa using harmed : n.action = guard ∨ armed = true ∧ n.action ≠ undo) with hg | ⟨harm, hn⟩
      · exact .inr ⟨[], n :: ns, rfl, congrArg some hg, List.forall_mem_cons.2 ⟨hg ▸ hne, hno⟩⟩
      · exact .inl ⟨harm, List.forall_mem_cons.2 ⟨hn, hno⟩⟩
    · exact .inr (hguarded.cons n)

/-- In a list read from unarmed, a guarded stretch stands before each action `act`. -/
theorem endsGuarded_before {guard undo act : PinAction} (hne : guard ≠ undo) {ms before after : List MicroStep} {m : MicroStep}
    (h : guardsEach guard undo act false ms = true) (hms : ms = before ++ m :: after) (hm : m.action = act) :
    EndsGuarded guard undo before := by
  obtain ⟨harmed, -⟩ | hguarded := endsGuarded_of_guardsEach hne (hms ▸ h) hm
  · simp at harmed
  · exact hguarded

theorem microSteps_disable_before_output (i : Instr) :
    guardsEach (.setDoe false) (.setDoe true) (.setDir .output) false (microSteps i) = true := by
  cases i <;> rfl

theorem microSteps_input_before_enable (i : Instr) :
    guardsEach (.setDir .input) (.setDir .output) (.setDoe true) false (microSteps i) = true := by
  cases i <;> rfl

/-- Settles O38: both orders are found along every command's list, and each makes the stretch before the action. -/
theorem disableBeforeDrive : Obligations.DisableBeforeDrive := by
  unfold Obligations.DisableBeforeDrive
  intro i before after m hms
  exact ⟨endsGuarded_before (by decide) (microSteps_disable_before_output i) hms,
    endsGuarded_before (by decide) (microSteps_input_before_enable i) hms⟩

/-! ### Cycles (70_reset_and_hazards.md R228) -/

@[simp] theorem listCycles_append (n : Nat) (xs ys : List MicroStep) : listCycles n (xs ++ ys) = listCycles n xs + listCycles n ys := by
  induction xs with
  | nil => simp [listCycles]
  | cons m ms ih => simp only [List.cons_append, listCycles, ih, Nat.add_assoc]

/-- Writing `phase` beside a micro-step takes no cycle. -/
@[simp] theorem listCycles_enterAtFirst (n : Nat) (p : Phase) (ms : List MicroStep) :
    listCycles n (enterAtFirst p ms) = listCycles n ms := by
  cases ms <;> rfl

@[simp] theorem listCycles_enterAtLast (n : Nat) (p : Phase) (ms : List MicroStep) :
    listCycles n (enterAtLast p ms) = listCycles n ms := by
  fun_induction enterAtLast p ms with
  | case1 => rfl
  | case2 => rfl
  | case3 m m' ms ih => rw [listCycles, ih, ← listCycles]

@[simp] theorem listCycles_prepAddrSteps (n : Nat) : listCycles n prepAddrSteps = 2 := rfl

@[simp] theorem listCycles_prepReadSteps (n : Nat) : listCycles n prepReadSteps = 2 := rfl

@[simp] theorem listCycles_sampleSteps (n : Nat) : listCycles n sampleSteps = 1 := rfl

@[simp] theorem listCycles_busIdleSteps (n : Nat) : listCycles n busIdleSteps = 2 := rfl

@[simp] theorem listCycles_latchAddrSteps (n : Nat) (a : Arg) : listCycles n (latchAddrSteps a) = 3 + n := by
  simp [latchAddrSteps, listCycles, stepCycles]
  omega

@[simp] theorem listCycles_delaySteps (n : Nat) (c : DelayClass) : listCycles n (delaySteps c) = delayUnits c * n := rfl

@[simp] theorem listCycles_prepWriteSteps (n : Nat) (d : Byte) : listCycles n (prepWriteSteps d) = 6 + n := by
  simp [prepWriteSteps, listCycles, stepCycles, Config.writePulseUnits]
  omega

/-- READ_BYTE takes the cycles of its primitives (43_byte_access.md R147). -/
theorem listCycles_readByteSteps (n : Nat) (a : Arg) : listCycles n (readByteSteps a) = 10 + 4 * n := by
  simp [readByteSteps, addressSteps, delayUnits, Config.longMult]
  omega

/-- So does WRITE_BYTE (92_eei_decisions.md D18, log 28). -/
theorem listCycles_writeByteSteps (n : Nat) (a : Arg) (d : Byte) : listCycles n (writeByteSteps a d) = 11 + 2 * n := by
  simp [writeByteSteps, addressSteps]
  omega

/-- Settles O50: each list's cycles, and no micro-step once a fault is recorded. -/
theorem durationTable : Obligations.DurationTable := by
  unfold Obligations.DurationTable
  refine ⟨fun N a d => ⟨rfl, listCycles_readByteSteps N a, listCycles_writeByteSteps N a d, rfl, rfl, rfl, rfl,
    listCycles_prepWriteSteps N d, listCycles_latchAddrSteps N a, ?short, rfl, rfl⟩, fun s w hf => ?faulted⟩
  case short => exact (listCycles_delaySteps N .short).trans (Nat.one_mul N)
  case faulted =>
    obtain ⟨f, hf⟩ := Option.ne_none_iff_exists'.1 hf
    rw [State.pending_of_fault hf, listCycles]

end Sys2Proof.Machine
end

section
/-! PROOFS. PREP_READ, DELAYs and SAMPLE: how long the device's output has been enabled when the sample is taken
(70_reset_and_hazards.md R219, 20_memory.md R46). -/

namespace Sys2Proof.Machine

theorem State.ReadyForPrimitive.of_exec {i : Instr} {s t : State} (h : s.ReadyForPrimitive) (hp : precondition i s = true)
    (hexec : exec i s = .next t) : t.ReadyForPrimitive := by
  obtain ⟨hready, -⟩ := exec_sameAtPins hexec h hp (p := s) rfl rfl
  exact hready

/-- `t` is ready with the device's output enabled for `units` of wait, and with the parameters, the device and the free values of `s`. -/
structure EnabledFor (units : Nat) (s t : State) : Prop where
  ready : t.ReadyForPrimitive
  dir : t.dir = .input
  doe : t.doe = true
  sinceValid : t.sinceValid = units
  cfg : t.cfg = s.cfg
  ce : t.ce = s.ce
  dev : t.dev = s.dev
  devAlatch : t.devAlatch = s.devAlatch
  draws : t.draws = s.draws

/-- PREP_READ enables a disabled output, so the validity clock starts (41_bus_direction.md R112, 20_memory.md R46 (i)). -/
theorem State.ReadyForPrimitive.issue_prepRead {s : State} (h : s.ReadyForPrimitive) (hdoe : s.doe = false) :
    ∃ t, s.issue (encode .prepRead) = .next t ∧ EnabledFor 0 s t := by
  have haccept := h.accept (encode .prepRead)
  obtain ⟨_, rfl, hexec, -⟩ := haccept.completes (i := .prepRead) rfl (run_prepRead haccept.latched)
  refine ⟨_, (State.issue_encode _ s).trans hexec, haccept.of_exec rfl hexec, rfl, rfl, ?_, rfl, rfl, rfl, rfl, rfl⟩
  simp [hdoe]

/-- DELAY adds its units and nothing else (40_timing_primitives.md R101, R103). -/
theorem EnabledFor.issue_delay {k : Nat} {s t : State} (h : EnabledFor k s t) (c : DelayClass) :
    ∃ u, t.issue (encode (.delay c)) = .next u ∧ EnabledFor (k + delayUnits c) s u := by
  have haccept := h.ready.accept (encode (.delay c))
  obtain ⟨_, rfl, hexec, -⟩ :=
    haccept.completes (i := .delay c) rfl (run_delay (State.pinsAtRest_contention haccept.1.1) c)
  exact ⟨_, (State.issue_encode _ t).trans hexec, haccept.of_exec rfl hexec, h.dir, h.doe,
    congrArg (· + delayUnits c) h.sinceValid, h.cfg, h.ce, h.dev, h.devAlatch, h.draws⟩

theorem EnabledFor.issueAll_delays {k : Nat} {s t : State} (h : EnabledFor k s t) (cs : List DelayClass) :
    ∃ u, (∀ ws, issueAll (cs.map (fun c => encode (.delay c)) ++ ws) t = issueAll ws u) ∧
      EnabledFor (k + (cs.map delayUnits).sum) s u := by
  induction cs generalizing k t with
  | nil => exact ⟨t, fun _ => rfl, h⟩
  | cons c cs ih =>
    obtain ⟨t', hissue, h'⟩ := h.issue_delay c
    obtain ⟨u, hall, hu⟩ := ih h'
    refine ⟨u, fun ws => (issueAll_cons_of_next hissue _).trans (hall ws), ?_⟩
    rwa [List.map_cons, List.sum_cons, ← Nat.add_assoc]

/-- SAMPLE of a live device: its byte once the output has been enabled for three units, before that the next free value
(20_memory.md R43 (d), R46). -/
theorem EnabledFor.issue_sample {k : Nat} {s t : State} (h : EnabledFor k s t) (hc : s.Selected) (ht : s.TimingOK) (he : s.EnvOK) :
    ∃ u, t.issue (encode .sample) = .next u ∧
      (3 ≤ k → dataLane u.rdVal = s.dev.read s.devAlatch) ∧ (k < 3 → u.rdVal = Config.draw20 s.draws) := by
  obtain ⟨u, hexec, -, -, hvalid, hfree, -⟩ := sampleReadsLines _ (h.ready.accept (encode .sample)) h.dir
  simp only [State.accept_doe, State.accept_ce, State.accept_dev, State.accept_sinceValid, State.accept_draws,
    State.accept_devAlatch, h.sinceValid, h.ce, h.dev, h.devAlatch, h.draws] at hvalid hfree
  have htime : (t.accept (encode .sample)).TimingOK := (congrArg Config.timingOK h.cfg).trans ht
  refine ⟨u, (State.issue_encode _ t).trans hexec, fun hk => ?_, fun hk => hfree (.inr (.inr (.inr hk)))⟩
  rw [hvalid h.doe hc he hk htime, ← withDataLane_eq_or, dataLane_withDataLane]

/-- Settles O32: the DELAYs add their units to the validity clock PREP_READ started, and SAMPLE asks it for three. -/
theorem sampleValidAfterThreeUnits : Obligations.SampleValidAfterThreeUnits := by
  unfold Obligations.SampleValidAfterThreeUnits
  intro s cs h hdoe hc ht he
  obtain ⟨t₁, hprep, h₁⟩ := h.issue_prepRead hdoe
  obtain ⟨t₂, hdelays, h₂⟩ := h₁.issueAll_delays cs
  rw [Nat.zero_add] at h₂
  obtain ⟨t, hsample, hvalid, hfree⟩ := h₂.issue_sample hc ht he
  refine ⟨t, ?_, hvalid, hfree⟩
  rw [List.cons_append, issueAll_cons_of_next hprep, hdelays, issueAll_cons_of_next hsample, issueAll]

end Sys2Proof.Machine
end
